-- ==== Sys2Proof/Word.lean ====
section
/-! DEFINITION. The two word types of the machine (10_state.md R30: every register is 16 bits; 20_memory.md R92:
the bus moves bytes) and the 20-bit linear address (R70). Every helper over them that a test could show wrong
stands in Sys2Proof/Machine/Bits.lean. -/

namespace Sys2Proof

/-- One byte, the unit of the memory and IO buses (20_memory.md R74, R92). -/
abbrev Byte := BitVec 8

/-- One 16-bit word: a general, segment or instruction-pointer register, or FLAGS (10_state.md R30). -/
abbrev Word := BitVec 16

/-- A linear (physical) memory address, 20 bits (20_memory.md R70). -/
abbrev Addr := BitVec 20

end Sys2Proof
end

