-- ==== Sys2Proof/Config.lean ====
section
/-! DEFINITION. The parameters of 00_scope.md R6: the types of the ones a platform chooses, the values of the ones
the spec fixes, and the free values. A free value is an opaque constant without a body: no proof can see it, so a
claim about it is true whatever it is. -/

namespace Sys2Proof

/-- `P_CPU_MODE` (R6, 92 D1): the baseline or the extended CPU. -/
inductive CpuMode where
  | i8088
  | v20
  deriving DecidableEq, Repr

/-- `P_WORD_WRAP` (R6, 20_memory.md R86, 92 D3): where the high byte of a word at offset 0xFFFF lies. -/
inductive WordWrap where
  | segment
  | linear
  deriving DecidableEq, Repr

/-- The seven operations of group 2 (30_encoding.md R131), also the first argument of `P_SHIFT_OF`. -/
inductive ShiftOp where
  | rol | ror | rcl | rcr | shl | shr | sar
  deriving DecidableEq, Repr

namespace Config

/-- `P_UNDEF` (R6, R10, 92 D6), the oracle of the flags the rules call undefined: answer number `n`.
FREE VALUE, notes/assumptions/1.md. -/
opaque undef : Nat → Bool

/-- `P_SHIFT_OF(op, w, operand, cnt, old_CF)` (42_logic_shift.md R339, 92 D7): OF after a shift or rotate by more
than one, a function of the inputs of which nothing is known. An 8-bit operand is zero-extended.
FREE VALUE, notes/assumptions/2.md. -/
opaque shiftOf : ShiftOp → Nat → Word → Nat → Bool → Bool

/-- What an `Opaque` device answers to a read (20_memory.md R82 (c), R92): its slot, the address or port read, and
the number of the draw. FREE VALUE, notes/assumptions/3.md. -/
opaque devAnswer : Nat → Nat → Nat → Byte

/-- `P_CYCLES` = 1 (R6, 70_reset_and_hazards.md R575, 92 D24). -/
def cyclesPerStep : Nat := 1

/-- The value the dummy device answers for unmapped memory and ports, 0xFF (R6, 20_memory.md R80, R83). -/
def floatingBus : Byte := 0xFF#8

/-- What a byte of `Ram` or `Rom` that nothing has written or loaded reads as: the launch content, which is the
platform's (R82). DESIGN CHOICE zero, unsafe: notes/assumptions/4.md. -/
def launchByte : Byte := 0x00#8

/-- The most peripherals a platform may have, in slots 1 to 31 (R6, 90_conflicts.md C4). -/
def maxPeripherals : Nat := 31

end Config

end Sys2Proof
end

