-- ==== Sys2Proof/Syntax.lean ====
section
/-! DEFINITION. The abstract syntax of the machine's instructions: the registers by name (10_state.md R31 to R33), the
ModRM operands (30_encoding.md R120 to R123) and `Instr`, one constructor for each row of spec/opcode_table.json.
A prefix byte is a row of that table and so an instruction of its own: it changes the decode state that the rest of the
same step reads (30_encoding.md R111). An illegal encoding is a row too; the bits of its ModRM byte that the row leaves
free select nothing (R140) and are not kept. -/

namespace Sys2Proof

/-- The 16-bit general registers, in the order of their encodings (10_state.md R31). -/
inductive Reg16 where
  | ax | cx | dx | bx | sp | bp | si | di
  deriving DecidableEq, Repr

/-- The 8-bit registers, in the order of their encodings (10_state.md R32). -/
inductive Reg8 where
  | al | cl | dl | bl | ah | ch | dh | bh
  deriving DecidableEq, Repr

/-- The segment registers, in the order of their encodings (10_state.md R33). -/
inductive Sreg where
  | es | cs | ss | ds
  deriving DecidableEq, Repr

/-- The eight base and index forms of a memory operand, in the order of `r/m` (30_encoding.md R123). -/
inductive EaBase where
  | bxSi | bxDi | bpSi | bpDi | si | di | bp | bx
  deriving DecidableEq, Repr

/-- A ModRM memory operand as it is encoded: `mod` 0, 1 or 2 with its displacement, or the direct address of
`mod` 0, `r/m` 6 (30_encoding.md R123). `disp0 .bp` has no encoding (WellFormed). -/
inductive MemOp where
  | direct (a : Word)
  | disp0 (b : EaBase)
  | disp8 (b : EaBase) (d : Byte)
  | disp16 (b : EaBase) (d : Word)
  deriving DecidableEq, Repr

/-- A ModRM `r/m` operand: a register (`mod` 3, R122) of the operand width `ρ`, or memory. -/
inductive RM (ρ : Type) where
  | reg (r : ρ)
  | mem (m : MemOp)
  deriving DecidableEq, Repr

/-- The instructions: one constructor for each row of spec/opcode_table.json, first the rows with
operands, then those without, each part in the table's order (Lean compiles a constructor with fields only below a
limit of tags, and the table has more rows than that). `e` is the ModRM
`r/m` operand, `g` the `reg` register, `m` a memory-only operand, `v` an immediate, `d` a relative offset, `p` a port
number, `a` a direct offset (30_encoding.md R114, R115). -/
inductive Instr where
  | addEbGb (e : RM Reg8) (g : Reg8)  -- 00h: ADD_Eb_Gb (R266)
  | addEvGv (e : RM Reg16) (g : Reg16)  -- 01h: ADD_Ev_Gv (R266)
  | addGbEb (g : Reg8) (e : RM Reg8)  -- 02h: ADD_Gb_Eb (R266)
  | addGvEv (g : Reg16) (e : RM Reg16)  -- 03h: ADD_Gv_Ev (R266)
  | addAlIb (v : Byte)  -- 04h: ADD_AL_ib (R266)
  | addAxIw (v : Word)  -- 05h: ADD_AX_iw (R266)
  | orEbGb (e : RM Reg8) (g : Reg8)  -- 08h: OR_Eb_Gb (R322)
  | orEvGv (e : RM Reg16) (g : Reg16)  -- 09h: OR_Ev_Gv (R322)
  | orGbEb (g : Reg8) (e : RM Reg8)  -- 0Ah: OR_Gb_Eb (R322)
  | orGvEv (g : Reg16) (e : RM Reg16)  -- 0Bh: OR_Gv_Ev (R322)
  | orAlIb (v : Byte)  -- 0Ch: OR_AL_ib (R322)
  | orAxIw (v : Word)  -- 0Dh: OR_AX_iw (R322)
  | adcEbGb (e : RM Reg8) (g : Reg8)  -- 10h: ADC_Eb_Gb (R267)
  | adcEvGv (e : RM Reg16) (g : Reg16)  -- 11h: ADC_Ev_Gv (R267)
  | adcGbEb (g : Reg8) (e : RM Reg8)  -- 12h: ADC_Gb_Eb (R267)
  | adcGvEv (g : Reg16) (e : RM Reg16)  -- 13h: ADC_Gv_Ev (R267)
  | adcAlIb (v : Byte)  -- 14h: ADC_AL_ib (R267)
  | adcAxIw (v : Word)  -- 15h: ADC_AX_iw (R267)
  | sbbEbGb (e : RM Reg8) (g : Reg8)  -- 18h: SBB_Eb_Gb (R269)
  | sbbEvGv (e : RM Reg16) (g : Reg16)  -- 19h: SBB_Ev_Gv (R269)
  | sbbGbEb (g : Reg8) (e : RM Reg8)  -- 1Ah: SBB_Gb_Eb (R269)
  | sbbGvEv (g : Reg16) (e : RM Reg16)  -- 1Bh: SBB_Gv_Ev (R269)
  | sbbAlIb (v : Byte)  -- 1Ch: SBB_AL_ib (R269)
  | sbbAxIw (v : Word)  -- 1Dh: SBB_AX_iw (R269)
  | andEbGb (e : RM Reg8) (g : Reg8)  -- 20h: AND_Eb_Gb (R321)
  | andEvGv (e : RM Reg16) (g : Reg16)  -- 21h: AND_Ev_Gv (R321)
  | andGbEb (g : Reg8) (e : RM Reg8)  -- 22h: AND_Gb_Eb (R321)
  | andGvEv (g : Reg16) (e : RM Reg16)  -- 23h: AND_Gv_Ev (R321)
  | andAlIb (v : Byte)  -- 24h: AND_AL_ib (R321)
  | andAxIw (v : Word)  -- 25h: AND_AX_iw (R321)
  | subEbGb (e : RM Reg8) (g : Reg8)  -- 28h: SUB_Eb_Gb (R268)
  | subEvGv (e : RM Reg16) (g : Reg16)  -- 29h: SUB_Ev_Gv (R268)
  | subGbEb (g : Reg8) (e : RM Reg8)  -- 2Ah: SUB_Gb_Eb (R268)
  | subGvEv (g : Reg16) (e : RM Reg16)  -- 2Bh: SUB_Gv_Ev (R268)
  | subAlIb (v : Byte)  -- 2Ch: SUB_AL_ib (R268)
  | subAxIw (v : Word)  -- 2Dh: SUB_AX_iw (R268)
  | xorEbGb (e : RM Reg8) (g : Reg8)  -- 30h: XOR_Eb_Gb (R323)
  | xorEvGv (e : RM Reg16) (g : Reg16)  -- 31h: XOR_Ev_Gv (R323)
  | xorGbEb (g : Reg8) (e : RM Reg8)  -- 32h: XOR_Gb_Eb (R323)
  | xorGvEv (g : Reg16) (e : RM Reg16)  -- 33h: XOR_Gv_Ev (R323)
  | xorAlIb (v : Byte)  -- 34h: XOR_AL_ib (R323)
  | xorAxIw (v : Word)  -- 35h: XOR_AX_iw (R323)
  | cmpEbGb (e : RM Reg8) (g : Reg8)  -- 38h: CMP_Eb_Gb (R270)
  | cmpEvGv (e : RM Reg16) (g : Reg16)  -- 39h: CMP_Ev_Gv (R270)
  | cmpGbEb (g : Reg8) (e : RM Reg8)  -- 3Ah: CMP_Gb_Eb (R270)
  | cmpGvEv (g : Reg16) (e : RM Reg16)  -- 3Bh: CMP_Gv_Ev (R270)
  | cmpAlIb (v : Byte)  -- 3Ch: CMP_AL_ib (R270)
  | cmpAxIw (v : Word)  -- 3Dh: CMP_AX_iw (R270)
  | incR16 (r : Reg16)  -- 40h: INC_r16 (R271)
  | decR16 (r : Reg16)  -- 48h: DEC_r16 (R272)
  | pushR16 (r : Reg16)  -- 50h: PUSH_r16 (R214)
  | popR16 (r : Reg16)  -- 58h: POP_r16 (R217)
  | boundGvMa (g : Reg16) (m : MemOp)  -- 62h: BOUND_Gv_Ma (R476)
  | pushIw (v : Word)  -- 68h: PUSH_iw (R473)
  | imulGvEvIw (g : Reg16) (e : RM Reg16) (v : Word)  -- 69h: IMUL_Gv_Ev_iw (R475)
  | pushIbS (v : Byte)  -- 6Ah: PUSH_ib__sign-extended (R474)
  | imulGvEvIbS (g : Reg16) (e : RM Reg16) (v : Byte)  -- 6Bh: IMUL_Gv_Ev_ib__sign-extended (R475)
  | joRel8 (d : Byte)  -- 70h: JO_rel8 (R405)
  | jnoRel8 (d : Byte)  -- 71h: JNO_rel8 (R405)
  | jbRel8 (d : Byte)  -- 72h: JB_rel8 (R405)
  | jaeRel8 (d : Byte)  -- 73h: JAE_rel8 (R405)
  | jeRel8 (d : Byte)  -- 74h: JE_rel8 (R405)
  | jneRel8 (d : Byte)  -- 75h: JNE_rel8 (R405)
  | jbeRel8 (d : Byte)  -- 76h: JBE_rel8 (R405)
  | jaRel8 (d : Byte)  -- 77h: JA_rel8 (R405)
  | jsRel8 (d : Byte)  -- 78h: JS_rel8 (R405)
  | jnsRel8 (d : Byte)  -- 79h: JNS_rel8 (R405)
  | jpRel8 (d : Byte)  -- 7Ah: JP_rel8 (R405)
  | jnpRel8 (d : Byte)  -- 7Bh: JNP_rel8 (R405)
  | jlRel8 (d : Byte)  -- 7Ch: JL_rel8 (R405)
  | jgeRel8 (d : Byte)  -- 7Dh: JGE_rel8 (R405)
  | jleRel8 (d : Byte)  -- 7Eh: JLE_rel8 (R405)
  | jgRel8 (d : Byte)  -- 7Fh: JG_rel8 (R405)
  | addEbIb (e : RM Reg8) (v : Byte)  -- 80h /0: ADD_Eb_ib (R266)
  | orEbIb (e : RM Reg8) (v : Byte)  -- 80h /1: OR_Eb_ib (R322)
  | adcEbIb (e : RM Reg8) (v : Byte)  -- 80h /2: ADC_Eb_ib (R267)
  | sbbEbIb (e : RM Reg8) (v : Byte)  -- 80h /3: SBB_Eb_ib (R269)
  | andEbIb (e : RM Reg8) (v : Byte)  -- 80h /4: AND_Eb_ib (R321)
  | subEbIb (e : RM Reg8) (v : Byte)  -- 80h /5: SUB_Eb_ib (R268)
  | xorEbIb (e : RM Reg8) (v : Byte)  -- 80h /6: XOR_Eb_ib (R323)
  | cmpEbIb (e : RM Reg8) (v : Byte)  -- 80h /7: CMP_Eb_ib (R270)
  | addEvIw (e : RM Reg16) (v : Word)  -- 81h /0: ADD_Ev_iw (R266)
  | orEvIw (e : RM Reg16) (v : Word)  -- 81h /1: OR_Ev_iw (R322)
  | adcEvIw (e : RM Reg16) (v : Word)  -- 81h /2: ADC_Ev_iw (R267)
  | sbbEvIw (e : RM Reg16) (v : Word)  -- 81h /3: SBB_Ev_iw (R269)
  | andEvIw (e : RM Reg16) (v : Word)  -- 81h /4: AND_Ev_iw (R321)
  | subEvIw (e : RM Reg16) (v : Word)  -- 81h /5: SUB_Ev_iw (R268)
  | xorEvIw (e : RM Reg16) (v : Word)  -- 81h /6: XOR_Ev_iw (R323)
  | cmpEvIw (e : RM Reg16) (v : Word)  -- 81h /7: CMP_Ev_iw (R270)
  | addEbIb82 (e : RM Reg8) (v : Byte)  -- 82h /0: ADD_Eb_ib (R266)
  | orEbIb82 (e : RM Reg8) (v : Byte)  -- 82h /1: OR_Eb_ib (R322)
  | adcEbIb82 (e : RM Reg8) (v : Byte)  -- 82h /2: ADC_Eb_ib (R267)
  | sbbEbIb82 (e : RM Reg8) (v : Byte)  -- 82h /3: SBB_Eb_ib (R269)
  | andEbIb82 (e : RM Reg8) (v : Byte)  -- 82h /4: AND_Eb_ib (R321)
  | subEbIb82 (e : RM Reg8) (v : Byte)  -- 82h /5: SUB_Eb_ib (R268)
  | xorEbIb82 (e : RM Reg8) (v : Byte)  -- 82h /6: XOR_Eb_ib (R323)
  | cmpEbIb82 (e : RM Reg8) (v : Byte)  -- 82h /7: CMP_Eb_ib (R270)
  | addEvIbS (e : RM Reg16) (v : Byte)  -- 83h /0: ADD_Ev_ib__sign-extended (R266)
  | orEvIbS (e : RM Reg16) (v : Byte)  -- 83h /1: OR_Ev_ib__sign-extended (R322)
  | adcEvIbS (e : RM Reg16) (v : Byte)  -- 83h /2: ADC_Ev_ib__sign-extended (R267)
  | sbbEvIbS (e : RM Reg16) (v : Byte)  -- 83h /3: SBB_Ev_ib__sign-extended (R269)
  | andEvIbS (e : RM Reg16) (v : Byte)  -- 83h /4: AND_Ev_ib__sign-extended (R321)
  | subEvIbS (e : RM Reg16) (v : Byte)  -- 83h /5: SUB_Ev_ib__sign-extended (R268)
  | xorEvIbS (e : RM Reg16) (v : Byte)  -- 83h /6: XOR_Ev_ib__sign-extended (R323)
  | cmpEvIbS (e : RM Reg16) (v : Byte)  -- 83h /7: CMP_Ev_ib__sign-extended (R270)
  | testEbGb (e : RM Reg8) (g : Reg8)  -- 84h: TEST_Eb_Gb (R324)
  | testEvGv (e : RM Reg16) (g : Reg16)  -- 85h: TEST_Ev_Gv (R324)
  | xchgEbGb (e : RM Reg8) (g : Reg8)  -- 86h: XCHG_Eb_Gb (R212)
  | xchgEvGv (e : RM Reg16) (g : Reg16)  -- 87h: XCHG_Ev_Gv (R212)
  | movEbGb (e : RM Reg8) (g : Reg8)  -- 88h: MOV_Eb_Gb (R201)
  | movEvGv (e : RM Reg16) (g : Reg16)  -- 89h: MOV_Ev_Gv (R201)
  | movGbEb (g : Reg8) (e : RM Reg8)  -- 8Ah: MOV_Gb_Eb (R201)
  | movGvEv (g : Reg16) (e : RM Reg16)  -- 8Bh: MOV_Gv_Ev (R201)
  | movEwEs (e : RM Reg16)  -- 8Ch /0: MOV_Ew_ES (R202)
  | movEwCs (e : RM Reg16)  -- 8Ch /1: MOV_Ew_CS (R202)
  | movEwSs (e : RM Reg16)  -- 8Ch /2: MOV_Ew_SS (R202)
  | movEwDs (e : RM Reg16)  -- 8Ch /3: MOV_Ew_DS (R202)
  | leaGvM (g : Reg16) (m : MemOp)  -- 8Dh: LEA_Gv_M (R220)
  | movEsEw (e : RM Reg16)  -- 8Eh /0: MOV_ES_Ew (R203)
  | movSsEw (e : RM Reg16)  -- 8Eh /2: MOV_SS_Ew (R203)
  | movDsEw (e : RM Reg16)  -- 8Eh /3: MOV_DS_Ew (R203)
  | popEv (e : RM Reg16)  -- 8Fh /0: POP_Ev (R219)
  | xchgAxR16 (r : Reg16)  -- 90h: XCHG_AX_r16 (R211)
  | callPtr (off : Word) (seg : Word)  -- 9Ah: CALL_ptr16_16 (R411)
  | movAlOb (a : Word)  -- A0h: MOV_AL_Ob (R204)
  | movAxOv (a : Word)  -- A1h: MOV_AX_Ov (R204)
  | movObAl (a : Word)  -- A2h: MOV_Ob_AL (R204)
  | movOvAx (a : Word)  -- A3h: MOV_Ov_AX (R204)
  | testAlIb (v : Byte)  -- A8h: TEST_AL_ib (R324)
  | testAxIw (v : Word)  -- A9h: TEST_AX_iw (R324)
  | movR8Ib (r : Reg8) (v : Byte)  -- B0h: MOV_r8_ib (R205)
  | movR16Iw (r : Reg16) (v : Word)  -- B8h: MOV_r16_iw (R205)
  | rolEbIb (e : RM Reg8) (v : Byte)  -- C0h /0: ROL_Eb_ib (R479)
  | rorEbIb (e : RM Reg8) (v : Byte)  -- C0h /1: ROR_Eb_ib (R479)
  | rclEbIb (e : RM Reg8) (v : Byte)  -- C0h /2: RCL_Eb_ib (R479)
  | rcrEbIb (e : RM Reg8) (v : Byte)  -- C0h /3: RCR_Eb_ib (R479)
  | shlEbIb (e : RM Reg8) (v : Byte)  -- C0h /4: SHL_Eb_ib (R479)
  | shrEbIb (e : RM Reg8) (v : Byte)  -- C0h /5: SHR_Eb_ib (R479)
  | sarEbIb (e : RM Reg8) (v : Byte)  -- C0h /7: SAR_Eb_ib (R479)
  | rolEvIb (e : RM Reg16) (v : Byte)  -- C1h /0: ROL_Ev_ib (R479)
  | rorEvIb (e : RM Reg16) (v : Byte)  -- C1h /1: ROR_Ev_ib (R479)
  | rclEvIb (e : RM Reg16) (v : Byte)  -- C1h /2: RCL_Ev_ib (R479)
  | rcrEvIb (e : RM Reg16) (v : Byte)  -- C1h /3: RCR_Ev_ib (R479)
  | shlEvIb (e : RM Reg16) (v : Byte)  -- C1h /4: SHL_Ev_ib (R479)
  | shrEvIb (e : RM Reg16) (v : Byte)  -- C1h /5: SHR_Ev_ib (R479)
  | sarEvIb (e : RM Reg16) (v : Byte)  -- C1h /7: SAR_Ev_ib (R479)
  | rolEb1 (e : RM Reg8)  -- D0h /0: ROL_Eb_1 (R332)
  | rorEb1 (e : RM Reg8)  -- D0h /1: ROR_Eb_1 (R333)
  | rclEb1 (e : RM Reg8)  -- D0h /2: RCL_Eb_1 (R334)
  | rcrEb1 (e : RM Reg8)  -- D0h /3: RCR_Eb_1 (R335)
  | shlEb1 (e : RM Reg8)  -- D0h /4: SHL_Eb_1 (R336)
  | shrEb1 (e : RM Reg8)  -- D0h /5: SHR_Eb_1 (R337)
  | sarEb1 (e : RM Reg8)  -- D0h /7: SAR_Eb_1 (R338)
  | rolEv1 (e : RM Reg16)  -- D1h /0: ROL_Ev_1 (R332)
  | rorEv1 (e : RM Reg16)  -- D1h /1: ROR_Ev_1 (R333)
  | rclEv1 (e : RM Reg16)  -- D1h /2: RCL_Ev_1 (R334)
  | rcrEv1 (e : RM Reg16)  -- D1h /3: RCR_Ev_1 (R335)
  | shlEv1 (e : RM Reg16)  -- D1h /4: SHL_Ev_1 (R336)
  | shrEv1 (e : RM Reg16)  -- D1h /5: SHR_Ev_1 (R337)
  | sarEv1 (e : RM Reg16)  -- D1h /7: SAR_Ev_1 (R338)
  | rolEbCl (e : RM Reg8)  -- D2h /0: ROL_Eb_CL (R332)
  | rorEbCl (e : RM Reg8)  -- D2h /1: ROR_Eb_CL (R333)
  | rclEbCl (e : RM Reg8)  -- D2h /2: RCL_Eb_CL (R334)
  | rcrEbCl (e : RM Reg8)  -- D2h /3: RCR_Eb_CL (R335)
  | shlEbCl (e : RM Reg8)  -- D2h /4: SHL_Eb_CL (R336)
  | shrEbCl (e : RM Reg8)  -- D2h /5: SHR_Eb_CL (R337)
  | sarEbCl (e : RM Reg8)  -- D2h /7: SAR_Eb_CL (R338)
  | rolEvCl (e : RM Reg16)  -- D3h /0: ROL_Ev_CL (R332)
  | rorEvCl (e : RM Reg16)  -- D3h /1: ROR_Ev_CL (R333)
  | rclEvCl (e : RM Reg16)  -- D3h /2: RCL_Ev_CL (R334)
  | rcrEvCl (e : RM Reg16)  -- D3h /3: RCR_Ev_CL (R335)
  | shlEvCl (e : RM Reg16)  -- D3h /4: SHL_Ev_CL (R336)
  | shrEvCl (e : RM Reg16)  -- D3h /5: SHR_Ev_CL (R337)
  | sarEvCl (e : RM Reg16)  -- D3h /7: SAR_Ev_CL (R338)
  | retIw (v : Word)  -- C2h: RET_iw (R415)
  | lesGvMp (g : Reg16) (m : MemOp)  -- C4h: LES_Gv_Mp (R222)
  | ldsGvMp (g : Reg16) (m : MemOp)  -- C5h: LDS_Gv_Mp (R221)
  | retfIw (v : Word)  -- CAh: RETF_iw (R417)
  | intIb (v : Byte)  -- CDh: INT_ib (R425)
  | aamIb (v : Byte)  -- D4h: AAM_ib (R294)
  | aadIb (v : Byte)  -- D5h: AAD_ib (R295)
  | movEbIb (e : RM Reg8) (v : Byte)  -- C6h /0: MOV_Eb_ib (R206)
  | movEvIw (e : RM Reg16) (v : Word)  -- C7h /0: MOV_Ev_iw (R206)
  | enterIwIb (size : Word) (level : Byte)  -- C8h: ENTER_iw_ib (R480)
  | esc (x : BitVec 3) (g : BitVec 3) (e : RM Reg16)  -- D8h: ESC__coprocessor_escape (R456)
  | loopneRel8 (d : Byte)  -- E0h: LOOPNE_rel8 (R422)
  | loopeRel8 (d : Byte)  -- E1h: LOOPE_rel8 (R421)
  | loopRel8 (d : Byte)  -- E2h: LOOP_rel8 (R420)
  | jcxzRel8 (d : Byte)  -- E3h: JCXZ_rel8 (R423)
  | inAlIb (v : Byte)  -- E4h: IN_AL_ib (R232)
  | inAxIb (v : Byte)  -- E5h: IN_AX_ib (R232)
  | outIbAl (p : Byte)  -- E6h: OUT_ib_AL (R234)
  | outIbAx (p : Byte)  -- E7h: OUT_ib_AX (R234)
  | callRel16 (d : Word)  -- E8h: CALL_rel16 (R410)
  | jmpRel16 (d : Word)  -- E9h: JMP_rel16 (R402)
  | jmpPtr (off : Word) (seg : Word)  -- EAh: JMP_ptr16_16 (R403)
  | jmpRel8 (d : Byte)  -- EBh: JMP_rel8 (R401)
  | testEbIb (e : RM Reg8) (v : Byte)  -- F6h /0: TEST_Eb_ib (R324)
  | notEb (e : RM Reg8)  -- F6h /2: NOT_Eb (R325)
  | negEb (e : RM Reg8)  -- F6h /3: NEG_Eb (R273)
  | mulEb (e : RM Reg8)  -- F6h /4: MUL_Eb (R280)
  | imulEb (e : RM Reg8)  -- F6h /5: IMUL_Eb (R281)
  | divEb (e : RM Reg8)  -- F6h /6: DIV_Eb (R282)
  | idivEb (e : RM Reg8)  -- F6h /7: IDIV_Eb (R283)
  | testEvIw (e : RM Reg16) (v : Word)  -- F7h /0: TEST_Ev_iw (R324)
  | notEv (e : RM Reg16)  -- F7h /2: NOT_Ev (R325)
  | negEv (e : RM Reg16)  -- F7h /3: NEG_Ev (R273)
  | mulEv (e : RM Reg16)  -- F7h /4: MUL_Ev (R280)
  | imulEv (e : RM Reg16)  -- F7h /5: IMUL_Ev (R281)
  | divEv (e : RM Reg16)  -- F7h /6: DIV_Ev (R282)
  | idivEv (e : RM Reg16)  -- F7h /7: IDIV_Ev (R283)
  | incEb (e : RM Reg8)  -- FEh /0: INC_Eb (R271)
  | decEb (e : RM Reg8)  -- FEh /1: DEC_Eb (R272)
  | incEv (e : RM Reg16)  -- FFh /0: INC_Ev (R271)
  | decEv (e : RM Reg16)  -- FFh /1: DEC_Ev (R272)
  | callEv (e : RM Reg16)  -- FFh /2: CALL_Ev (R412)
  | callMpFar (m : MemOp)  -- FFh /3: CALL_Mp__far (R413)
  | jmpEv (e : RM Reg16)  -- FFh /4: JMP_Ev (R406)
  | jmpMpFar (m : MemOp)  -- FFh /5: JMP_Mp__far (R407)
  | pushEv (e : RM Reg16)  -- FFh /6: PUSH_Ev (R216)
  | pushEs  -- 06h: PUSH_ES (R215)
  | pushCs  -- 0Eh: PUSH_CS (R215)
  | pushSs  -- 16h: PUSH_SS (R215)
  | pushDs  -- 1Eh: PUSH_DS (R215)
  | popEs  -- 07h: POP_ES (R218)
  | popSs  -- 17h: POP_SS (R218)
  | popDs  -- 1Fh: POP_DS (R218)
  | prefixEs  -- 26h: ES___segment_override_prefix (R111)
  | prefixCs  -- 2Eh: CS___segment_override_prefix (R111)
  | prefixSs  -- 36h: SS___segment_override_prefix (R111)
  | prefixDs  -- 3Eh: DS___segment_override_prefix (R111)
  | prefixLock  -- F0h: LOCK__prefix (R457)
  | prefixRepne  -- F2h: REPNE_REPNZ__prefix (R370)
  | prefixRep  -- F3h: REP_REPE_REPZ__prefix (R370)
  | daa  -- 27h: DAA (R290)
  | das  -- 2Fh: DAS (R291)
  | aaa  -- 37h: AAA (R292)
  | aas  -- 3Fh: AAS (R293)
  | pusha  -- 60h: PUSHA (R471)
  | popa  -- 61h: POPA (R472)
  | insb  -- 6Ch: INSB (R477)
  | insw  -- 6Dh: INSW (R477)
  | outsb  -- 6Eh: OUTSB (R478)
  | outsw  -- 6Fh: OUTSW (R478)
  | nop  -- 90h: NOP__XCHG_AX_AX (R213)
  | cbw  -- 98h: CBW (R238)
  | cwd  -- 99h: CWD (R239)
  | wait  -- 9Bh: WAIT (R455)
  | pushf  -- 9Ch: PUSHF (R228)
  | popf  -- 9Dh: POPF (R229)
  | sahf  -- 9Eh: SAHF (R226)
  | lahf  -- 9Fh: LAHF (R224)
  | movsb  -- A4h: MOVSB (R361)
  | movsw  -- A5h: MOVSW (R361)
  | cmpsb  -- A6h: CMPSB (R362)
  | cmpsw  -- A7h: CMPSW (R362)
  | stosb  -- AAh: STOSB (R365)
  | stosw  -- ABh: STOSW (R365)
  | lodsb  -- ACh: LODSB (R364)
  | lodsw  -- ADh: LODSW (R364)
  | scasb  -- AEh: SCASB (R363)
  | scasw  -- AFh: SCASW (R363)
  | ret  -- C3h: RET (R414)
  | retf  -- CBh: RETF (R416)
  | int3  -- CCh: INT_3 (R424)
  | into  -- CEh: INTO (R427)
  | iret  -- CFh: IRET (R426)
  | xlat  -- D7h: XLAT (R230)
  | leave  -- C9h: LEAVE (R481)
  | inAlDx  -- ECh: IN_AL_DX (R233)
  | inAxDx  -- EDh: IN_AX_DX (R233)
  | outDxAl  -- EEh: OUT_DX_AL (R235)
  | outDxAx  -- EFh: OUT_DX_AX (R235)
  | hlt  -- F4h: HLT (R447)
  | cmc  -- F5h: CMC (R442)
  | clc  -- F8h: CLC (R440)
  | stc  -- F9h: STC (R441)
  | cli  -- FAh: CLI (R443)
  | sti  -- FBh: STI (R444)
  | cld  -- FCh: CLD (R445)
  | std  -- FDh: STD (R446)
  | illegal0F  -- 0Fh: illegal__0Fh (R140)
  | illegalI8088x60  -- 60h: illegal_in_I8088__60h (R470)
  | illegalI8088x61  -- 61h: illegal_in_I8088__61h (R470)
  | illegalI8088x62  -- 62h: illegal_in_I8088__62h (R470)
  | illegalI8088x68  -- 68h: illegal_in_I8088__68h (R470)
  | illegalI8088x69  -- 69h: illegal_in_I8088__69h (R470)
  | illegalI8088x6A  -- 6Ah: illegal_in_I8088__6Ah (R470)
  | illegalI8088x6B  -- 6Bh: illegal_in_I8088__6Bh (R470)
  | illegalI8088x6C  -- 6Ch: illegal_in_I8088__6Ch (R470)
  | illegalI8088x6D  -- 6Dh: illegal_in_I8088__6Dh (R470)
  | illegalI8088x6E  -- 6Eh: illegal_in_I8088__6Eh (R470)
  | illegalI8088x6F  -- 6Fh: illegal_in_I8088__6Fh (R470)
  | illegalI8088xC0  -- C0h: illegal_in_I8088__C0h (R470)
  | illegalI8088xC1  -- C1h: illegal_in_I8088__C1h (R470)
  | illegalI8088xC8  -- C8h: illegal_in_I8088__C8h (R470)
  | illegalI8088xC9  -- C9h: illegal_in_I8088__C9h (R470)
  | illegal63  -- 63h: illegal__63h (R140)
  | illegal64  -- 64h: illegal__64h (R140)
  | illegal65  -- 65h: illegal__65h (R140)
  | illegal66  -- 66h: illegal__66h (R140)
  | illegal67  -- 67h: illegal__67h (R140)
  | illegalD6  -- D6h: illegal__D6h (R140)
  | illegalF1  -- F1h: illegal__F1h (R140)
  | illegalC0r6  -- C0h /6: illegal__C0h__6 (R140)
  | illegalC1r6  -- C1h /6: illegal__C1h__6 (R140)
  | illegalD0r6  -- D0h /6: illegal__D0h__6 (R140)
  | illegalD1r6  -- D1h /6: illegal__D1h__6 (R140)
  | illegalD2r6  -- D2h /6: illegal__D2h__6 (R140)
  | illegalD3r6  -- D3h /6: illegal__D3h__6 (R140)
  | illegalF6r1  -- F6h /1: illegal__F6h__1 (R140)
  | illegalF7r1  -- F7h /1: illegal__F7h__1 (R140)
  | illegalFEr2  -- FEh /2: illegal__FEh__2 (R140)
  | illegalFEr3  -- FEh /3: illegal__FEh__3 (R140)
  | illegalFEr4  -- FEh /4: illegal__FEh__4 (R140)
  | illegalFEr5  -- FEh /5: illegal__FEh__5 (R140)
  | illegalFEr6  -- FEh /6: illegal__FEh__6 (R140)
  | illegalFEr7  -- FEh /7: illegal__FEh__7 (R140)
  | illegalFFr7  -- FFh /7: illegal__FFh__7 (R140)
  | illegal8Fr1  -- 8Fh /1: illegal__8Fh__1 (R140)
  | illegal8Fr2  -- 8Fh /2: illegal__8Fh__2 (R140)
  | illegal8Fr3  -- 8Fh /3: illegal__8Fh__3 (R140)
  | illegal8Fr4  -- 8Fh /4: illegal__8Fh__4 (R140)
  | illegal8Fr5  -- 8Fh /5: illegal__8Fh__5 (R140)
  | illegal8Fr6  -- 8Fh /6: illegal__8Fh__6 (R140)
  | illegal8Fr7  -- 8Fh /7: illegal__8Fh__7 (R140)
  | illegalC6r1  -- C6h /1: illegal__C6h__1 (R140)
  | illegalC6r2  -- C6h /2: illegal__C6h__2 (R140)
  | illegalC6r3  -- C6h /3: illegal__C6h__3 (R140)
  | illegalC6r4  -- C6h /4: illegal__C6h__4 (R140)
  | illegalC6r5  -- C6h /5: illegal__C6h__5 (R140)
  | illegalC6r6  -- C6h /6: illegal__C6h__6 (R140)
  | illegalC6r7  -- C6h /7: illegal__C6h__7 (R140)
  | illegalC7r1  -- C7h /1: illegal__C7h__1 (R140)
  | illegalC7r2  -- C7h /2: illegal__C7h__2 (R140)
  | illegalC7r3  -- C7h /3: illegal__C7h__3 (R140)
  | illegalC7r4  -- C7h /4: illegal__C7h__4 (R140)
  | illegalC7r5  -- C7h /5: illegal__C7h__5 (R140)
  | illegalC7r6  -- C7h /6: illegal__C7h__6 (R140)
  | illegalC7r7  -- C7h /7: illegal__C7h__7 (R140)
  | illegal8Cr4  -- 8Ch /4: illegal__8Ch__4 (R140)
  | illegal8Cr5  -- 8Ch /5: illegal__8Ch__5 (R140)
  | illegal8Cr6  -- 8Ch /6: illegal__8Ch__6 (R140)
  | illegal8Cr7  -- 8Ch /7: illegal__8Ch__7 (R140)
  | illegal8Er1  -- 8Eh /1: illegal__8Eh__1 (R140)
  | illegal8Er4  -- 8Eh /4: illegal__8Eh__4 (R140)
  | illegal8Er5  -- 8Eh /5: illegal__8Eh__5 (R140)
  | illegal8Er6  -- 8Eh /6: illegal__8Eh__6 (R140)
  | illegal8Er7  -- 8Eh /7: illegal__8Eh__7 (R140)
  | illegal8Dmod3  -- 8Dh: illegal__8Dh_with_mod___3 (R140)
  | illegalC4mod3  -- C4h: illegal__C4h_with_mod___3 (R140)
  | illegalC5mod3  -- C5h: illegal__C5h_with_mod___3 (R140)
  | illegal62mod3  -- 62h: illegal__62h_with_mod___3 (R140)
  | illegalFFr3mod3  -- FFh: illegal__FFh__3_with_mod___3 (R140)
  | illegalFFr5mod3  -- FFh: illegal__FFh__5_with_mod___3 (R140)
  deriving DecidableEq, Repr

end Sys2Proof
end

