-- ==== Sys2Proof/WellFormed.lean ====
section
/-! DEFINITION. Which terms of `Instr` are instructions: the operand has an encoding (30_encoding.md R123), a register
field holds a value its row allows (40_data_transfer.md R211), and the row exists in the CPU mode (R140, R470). -/

namespace Sys2Proof

/-- `mod` 0 with `r/m` 6 is the direct address, so no encoding names `[BP]` without a displacement
(30_encoding.md R123). -/
def MemOp.wellFormed : MemOp → Bool
  | .direct _ => true
  | .disp0 b => b != .bp
  | .disp8 _ _ => true
  | .disp16 _ _ => true

/-- A register operand is always encodable; a memory operand when it is well formed. -/
def RM.wellFormed {ρ : Type} : RM ρ → Bool
  | .reg _ => true
  | .mem m => m.wellFormed

/-- Rows whose mode is `V20` (30_encoding.md R140, 46_v20_extensions.md R470). -/
def CpuMode.isV20 : CpuMode → Bool
  | .i8088 => false
  | .v20 => true

/-- Rows whose mode is `I8088` (30_encoding.md R140). -/
def CpuMode.isI8088 : CpuMode → Bool
  | .i8088 => true
  | .v20 => false

/-- `i` is an instruction of the machine in mode `m`: one check for each row. -/
def Instr.wellFormed (m : CpuMode) : Instr → Bool
  | .addEbGb e _ => e.wellFormed
  | .addEvGv e _ => e.wellFormed
  | .addGbEb _ e => e.wellFormed
  | .addGvEv _ e => e.wellFormed
  | .addAlIb _ => true
  | .addAxIw _ => true
  | .orEbGb e _ => e.wellFormed
  | .orEvGv e _ => e.wellFormed
  | .orGbEb _ e => e.wellFormed
  | .orGvEv _ e => e.wellFormed
  | .orAlIb _ => true
  | .orAxIw _ => true
  | .adcEbGb e _ => e.wellFormed
  | .adcEvGv e _ => e.wellFormed
  | .adcGbEb _ e => e.wellFormed
  | .adcGvEv _ e => e.wellFormed
  | .adcAlIb _ => true
  | .adcAxIw _ => true
  | .sbbEbGb e _ => e.wellFormed
  | .sbbEvGv e _ => e.wellFormed
  | .sbbGbEb _ e => e.wellFormed
  | .sbbGvEv _ e => e.wellFormed
  | .sbbAlIb _ => true
  | .sbbAxIw _ => true
  | .andEbGb e _ => e.wellFormed
  | .andEvGv e _ => e.wellFormed
  | .andGbEb _ e => e.wellFormed
  | .andGvEv _ e => e.wellFormed
  | .andAlIb _ => true
  | .andAxIw _ => true
  | .subEbGb e _ => e.wellFormed
  | .subEvGv e _ => e.wellFormed
  | .subGbEb _ e => e.wellFormed
  | .subGvEv _ e => e.wellFormed
  | .subAlIb _ => true
  | .subAxIw _ => true
  | .xorEbGb e _ => e.wellFormed
  | .xorEvGv e _ => e.wellFormed
  | .xorGbEb _ e => e.wellFormed
  | .xorGvEv _ e => e.wellFormed
  | .xorAlIb _ => true
  | .xorAxIw _ => true
  | .cmpEbGb e _ => e.wellFormed
  | .cmpEvGv e _ => e.wellFormed
  | .cmpGbEb _ e => e.wellFormed
  | .cmpGvEv _ e => e.wellFormed
  | .cmpAlIb _ => true
  | .cmpAxIw _ => true
  | .incR16 _ => true
  | .decR16 _ => true
  | .pushR16 _ => true
  | .popR16 _ => true
  | .boundGvMa _ mo => m.isV20 && mo.wellFormed
  | .pushIw _ => m.isV20
  | .imulGvEvIw _ e _ => m.isV20 && e.wellFormed
  | .pushIbS _ => m.isV20
  | .imulGvEvIbS _ e _ => m.isV20 && e.wellFormed
  | .joRel8 _ => true
  | .jnoRel8 _ => true
  | .jbRel8 _ => true
  | .jaeRel8 _ => true
  | .jeRel8 _ => true
  | .jneRel8 _ => true
  | .jbeRel8 _ => true
  | .jaRel8 _ => true
  | .jsRel8 _ => true
  | .jnsRel8 _ => true
  | .jpRel8 _ => true
  | .jnpRel8 _ => true
  | .jlRel8 _ => true
  | .jgeRel8 _ => true
  | .jleRel8 _ => true
  | .jgRel8 _ => true
  | .addEbIb e _ => e.wellFormed
  | .orEbIb e _ => e.wellFormed
  | .adcEbIb e _ => e.wellFormed
  | .sbbEbIb e _ => e.wellFormed
  | .andEbIb e _ => e.wellFormed
  | .subEbIb e _ => e.wellFormed
  | .xorEbIb e _ => e.wellFormed
  | .cmpEbIb e _ => e.wellFormed
  | .addEvIw e _ => e.wellFormed
  | .orEvIw e _ => e.wellFormed
  | .adcEvIw e _ => e.wellFormed
  | .sbbEvIw e _ => e.wellFormed
  | .andEvIw e _ => e.wellFormed
  | .subEvIw e _ => e.wellFormed
  | .xorEvIw e _ => e.wellFormed
  | .cmpEvIw e _ => e.wellFormed
  | .addEbIb82 e _ => e.wellFormed
  | .orEbIb82 e _ => e.wellFormed
  | .adcEbIb82 e _ => e.wellFormed
  | .sbbEbIb82 e _ => e.wellFormed
  | .andEbIb82 e _ => e.wellFormed
  | .subEbIb82 e _ => e.wellFormed
  | .xorEbIb82 e _ => e.wellFormed
  | .cmpEbIb82 e _ => e.wellFormed
  | .addEvIbS e _ => e.wellFormed
  | .orEvIbS e _ => e.wellFormed
  | .adcEvIbS e _ => e.wellFormed
  | .sbbEvIbS e _ => e.wellFormed
  | .andEvIbS e _ => e.wellFormed
  | .subEvIbS e _ => e.wellFormed
  | .xorEvIbS e _ => e.wellFormed
  | .cmpEvIbS e _ => e.wellFormed
  | .testEbGb e _ => e.wellFormed
  | .testEvGv e _ => e.wellFormed
  | .xchgEbGb e _ => e.wellFormed
  | .xchgEvGv e _ => e.wellFormed
  | .movEbGb e _ => e.wellFormed
  | .movEvGv e _ => e.wellFormed
  | .movGbEb _ e => e.wellFormed
  | .movGvEv _ e => e.wellFormed
  | .movEwEs e => e.wellFormed
  | .movEwCs e => e.wellFormed
  | .movEwSs e => e.wellFormed
  | .movEwDs e => e.wellFormed
  | .leaGvM _ mo => mo.wellFormed
  | .movEsEw e => e.wellFormed
  | .movSsEw e => e.wellFormed
  | .movDsEw e => e.wellFormed
  | .popEv e => e.wellFormed
  | .xchgAxR16 r => r != .ax
  | .callPtr _ _ => true
  | .movAlOb _ => true
  | .movAxOv _ => true
  | .movObAl _ => true
  | .movOvAx _ => true
  | .testAlIb _ => true
  | .testAxIw _ => true
  | .movR8Ib _ _ => true
  | .movR16Iw _ _ => true
  | .rolEbIb e _ => m.isV20 && e.wellFormed
  | .rorEbIb e _ => m.isV20 && e.wellFormed
  | .rclEbIb e _ => m.isV20 && e.wellFormed
  | .rcrEbIb e _ => m.isV20 && e.wellFormed
  | .shlEbIb e _ => m.isV20 && e.wellFormed
  | .shrEbIb e _ => m.isV20 && e.wellFormed
  | .sarEbIb e _ => m.isV20 && e.wellFormed
  | .rolEvIb e _ => m.isV20 && e.wellFormed
  | .rorEvIb e _ => m.isV20 && e.wellFormed
  | .rclEvIb e _ => m.isV20 && e.wellFormed
  | .rcrEvIb e _ => m.isV20 && e.wellFormed
  | .shlEvIb e _ => m.isV20 && e.wellFormed
  | .shrEvIb e _ => m.isV20 && e.wellFormed
  | .sarEvIb e _ => m.isV20 && e.wellFormed
  | .rolEb1 e => e.wellFormed
  | .rorEb1 e => e.wellFormed
  | .rclEb1 e => e.wellFormed
  | .rcrEb1 e => e.wellFormed
  | .shlEb1 e => e.wellFormed
  | .shrEb1 e => e.wellFormed
  | .sarEb1 e => e.wellFormed
  | .rolEv1 e => e.wellFormed
  | .rorEv1 e => e.wellFormed
  | .rclEv1 e => e.wellFormed
  | .rcrEv1 e => e.wellFormed
  | .shlEv1 e => e.wellFormed
  | .shrEv1 e => e.wellFormed
  | .sarEv1 e => e.wellFormed
  | .rolEbCl e => e.wellFormed
  | .rorEbCl e => e.wellFormed
  | .rclEbCl e => e.wellFormed
  | .rcrEbCl e => e.wellFormed
  | .shlEbCl e => e.wellFormed
  | .shrEbCl e => e.wellFormed
  | .sarEbCl e => e.wellFormed
  | .rolEvCl e => e.wellFormed
  | .rorEvCl e => e.wellFormed
  | .rclEvCl e => e.wellFormed
  | .rcrEvCl e => e.wellFormed
  | .shlEvCl e => e.wellFormed
  | .shrEvCl e => e.wellFormed
  | .sarEvCl e => e.wellFormed
  | .retIw _ => true
  | .lesGvMp _ mo => mo.wellFormed
  | .ldsGvMp _ mo => mo.wellFormed
  | .retfIw _ => true
  | .intIb _ => true
  | .aamIb _ => true
  | .aadIb _ => true
  | .movEbIb e _ => e.wellFormed
  | .movEvIw e _ => e.wellFormed
  | .enterIwIb _ _ => m.isV20
  | .esc _ _ e => e.wellFormed
  | .loopneRel8 _ => true
  | .loopeRel8 _ => true
  | .loopRel8 _ => true
  | .jcxzRel8 _ => true
  | .inAlIb _ => true
  | .inAxIb _ => true
  | .outIbAl _ => true
  | .outIbAx _ => true
  | .callRel16 _ => true
  | .jmpRel16 _ => true
  | .jmpPtr _ _ => true
  | .jmpRel8 _ => true
  | .testEbIb e _ => e.wellFormed
  | .notEb e => e.wellFormed
  | .negEb e => e.wellFormed
  | .mulEb e => e.wellFormed
  | .imulEb e => e.wellFormed
  | .divEb e => e.wellFormed
  | .idivEb e => e.wellFormed
  | .testEvIw e _ => e.wellFormed
  | .notEv e => e.wellFormed
  | .negEv e => e.wellFormed
  | .mulEv e => e.wellFormed
  | .imulEv e => e.wellFormed
  | .divEv e => e.wellFormed
  | .idivEv e => e.wellFormed
  | .incEb e => e.wellFormed
  | .decEb e => e.wellFormed
  | .incEv e => e.wellFormed
  | .decEv e => e.wellFormed
  | .callEv e => e.wellFormed
  | .callMpFar mo => mo.wellFormed
  | .jmpEv e => e.wellFormed
  | .jmpMpFar mo => mo.wellFormed
  | .pushEv e => e.wellFormed
  | .pushEs => true
  | .pushCs => true
  | .pushSs => true
  | .pushDs => true
  | .popEs => true
  | .popSs => true
  | .popDs => true
  | .prefixEs => true
  | .prefixCs => true
  | .prefixSs => true
  | .prefixDs => true
  | .prefixLock => true
  | .prefixRepne => true
  | .prefixRep => true
  | .daa => true
  | .das => true
  | .aaa => true
  | .aas => true
  | .pusha => m.isV20
  | .popa => m.isV20
  | .insb => m.isV20
  | .insw => m.isV20
  | .outsb => m.isV20
  | .outsw => m.isV20
  | .nop => true
  | .cbw => true
  | .cwd => true
  | .wait => true
  | .pushf => true
  | .popf => true
  | .sahf => true
  | .lahf => true
  | .movsb => true
  | .movsw => true
  | .cmpsb => true
  | .cmpsw => true
  | .stosb => true
  | .stosw => true
  | .lodsb => true
  | .lodsw => true
  | .scasb => true
  | .scasw => true
  | .ret => true
  | .retf => true
  | .int3 => true
  | .into => true
  | .iret => true
  | .xlat => true
  | .leave => m.isV20
  | .inAlDx => true
  | .inAxDx => true
  | .outDxAl => true
  | .outDxAx => true
  | .hlt => true
  | .cmc => true
  | .clc => true
  | .stc => true
  | .cli => true
  | .sti => true
  | .cld => true
  | .std => true
  | .illegal0F => true
  | .illegalI8088x60 => m.isI8088
  | .illegalI8088x61 => m.isI8088
  | .illegalI8088x62 => m.isI8088
  | .illegalI8088x68 => m.isI8088
  | .illegalI8088x69 => m.isI8088
  | .illegalI8088x6A => m.isI8088
  | .illegalI8088x6B => m.isI8088
  | .illegalI8088x6C => m.isI8088
  | .illegalI8088x6D => m.isI8088
  | .illegalI8088x6E => m.isI8088
  | .illegalI8088x6F => m.isI8088
  | .illegalI8088xC0 => m.isI8088
  | .illegalI8088xC1 => m.isI8088
  | .illegalI8088xC8 => m.isI8088
  | .illegalI8088xC9 => m.isI8088
  | .illegal63 => true
  | .illegal64 => true
  | .illegal65 => true
  | .illegal66 => true
  | .illegal67 => true
  | .illegalD6 => true
  | .illegalF1 => true
  | .illegalC0r6 => m.isV20
  | .illegalC1r6 => m.isV20
  | .illegalD0r6 => true
  | .illegalD1r6 => true
  | .illegalD2r6 => true
  | .illegalD3r6 => true
  | .illegalF6r1 => true
  | .illegalF7r1 => true
  | .illegalFEr2 => true
  | .illegalFEr3 => true
  | .illegalFEr4 => true
  | .illegalFEr5 => true
  | .illegalFEr6 => true
  | .illegalFEr7 => true
  | .illegalFFr7 => true
  | .illegal8Fr1 => true
  | .illegal8Fr2 => true
  | .illegal8Fr3 => true
  | .illegal8Fr4 => true
  | .illegal8Fr5 => true
  | .illegal8Fr6 => true
  | .illegal8Fr7 => true
  | .illegalC6r1 => true
  | .illegalC6r2 => true
  | .illegalC6r3 => true
  | .illegalC6r4 => true
  | .illegalC6r5 => true
  | .illegalC6r6 => true
  | .illegalC6r7 => true
  | .illegalC7r1 => true
  | .illegalC7r2 => true
  | .illegalC7r3 => true
  | .illegalC7r4 => true
  | .illegalC7r5 => true
  | .illegalC7r6 => true
  | .illegalC7r7 => true
  | .illegal8Cr4 => true
  | .illegal8Cr5 => true
  | .illegal8Cr6 => true
  | .illegal8Cr7 => true
  | .illegal8Er1 => true
  | .illegal8Er4 => true
  | .illegal8Er5 => true
  | .illegal8Er6 => true
  | .illegal8Er7 => true
  | .illegal8Dmod3 => true
  | .illegalC4mod3 => true
  | .illegalC5mod3 => true
  | .illegal62mod3 => m.isV20
  | .illegalFFr3mod3 => true
  | .illegalFFr5mod3 => true

end Sys2Proof
end

