-- ==== Sys2Proof/Decode.lean ====
section
/-! DEFINITION. The decoder: 30_encoding.md's opcode map (R130, R131, R140) as a total function on any bytes, and after
it the encoder written from the same tables. A decode reads ONE row of the table: a prefix byte is a row of one byte
(R111), and Sys2Proof/Machine/Step.lean runs the loop over prefixes. -/

namespace Sys2Proof

/-! ### Register and addressing codes -/

/-- The register encoding of 10_state.md R31. -/
def Reg16.ofCode (c : BitVec 3) : Reg16 :=
  match c.toNat with
  | 0 => .ax | 1 => .cx | 2 => .dx | 3 => .bx | 4 => .sp | 5 => .bp | 6 => .si | _ => .di

/-- The register encoding of 10_state.md R32. -/
def Reg8.ofCode (c : BitVec 3) : Reg8 :=
  match c.toNat with
  | 0 => .al | 1 => .cl | 2 => .dl | 3 => .bl | 4 => .ah | 5 => .ch | 6 => .dh | _ => .bh

/-- The base and index table of 30_encoding.md R123, by `r/m`. -/
def EaBase.ofCode (c : BitVec 3) : EaBase :=
  match c.toNat with
  | 0 => .bxSi | 1 => .bxDi | 2 => .bpSi | 3 => .bpDi | 4 => .si | 5 => .di | 6 => .bp | _ => .bx

def Reg16.code : Reg16 → BitVec 3
  | .ax => 0#3 | .cx => 1#3 | .dx => 2#3 | .bx => 3#3 | .sp => 4#3 | .bp => 5#3 | .si => 6#3 | .di => 7#3

def Reg8.code : Reg8 → BitVec 3
  | .al => 0#3 | .cl => 1#3 | .dl => 2#3 | .bl => 3#3 | .ah => 4#3 | .ch => 5#3 | .dh => 6#3 | .bh => 7#3

def EaBase.code : EaBase → BitVec 3
  | .bxSi => 0#3 | .bxDi => 1#3 | .bpSi => 2#3 | .bpDi => 3#3 | .si => 4#3 | .di => 5#3 | .bp => 6#3 | .bx => 7#3

/-! ### The ModRM byte -/

/-- The three fields of a ModRM byte (30_encoding.md R120). -/
structure ModRM where
  mod : BitVec 2
  reg : BitVec 3
  rm : BitVec 3
  deriving DecidableEq, Repr

/-- `mod = modrm[7:6]`, `reg = modrm[5:3]`, `rm = modrm[2:0]` (30_encoding.md R120). -/
def ModRM.ofByte (b : Byte) : ModRM :=
  { mod := b.extractLsb' 6 2, reg := b.extractLsb' 3 3, rm := b.extractLsb' 0 3 }

/-- The byte that holds the three fields. -/
def ModRM.toByte (m : ModRM) : Byte := m.mod ++ m.reg ++ m.rm

/-- A word laid out low byte first (20_memory.md R88). -/
def wordOfBytes (lo hi : Byte) : Word := hi ++ lo

/-- The low byte of a word. -/
def loByte (w : Word) : Byte := w.extractLsb' 0 8

/-- The high byte of a word. -/
def hiByte (w : Word) : Byte := w.extractLsb' 8 8

/-! ### Results and formats -/

/-- Why a list of bytes does not hold a whole instruction: which part is missing. Every full encoding decodes, since
the illegal ones are rows of the table (30_encoding.md R140). -/
inductive DecodeErr where
  | noOpcode
  | noModRM
  | noDisplacement
  | noImmediate
  deriving DecidableEq, Repr

/-- An instruction and the bytes after it, or what is missing. -/
abbrev Dec := Except DecodeErr (Instr × List Byte)

/-- Format `op`: no byte after the opcode (30_encoding.md R114). -/
def fmtOp (i : Instr) (bs : List Byte) : Dec := .ok (i, bs)

/-- An immediate byte `ib` (R115 (a)). -/
def fmtImm8 (k : Byte → Instr) : List Byte → Dec
  | b :: rest => .ok (k b, rest)
  | [] => .error .noImmediate

/-- An immediate word `iw`, low byte first (R115 (b)). -/
def fmtImm16 (k : Word → Instr) : List Byte → Dec
  | lo :: hi :: rest => .ok (k (wordOfBytes lo hi), rest)
  | _ => .error .noImmediate

/-- `ptr16:16`: an offset word, then a segment word (R115 (e)). -/
def fmtPtr (k : Word → Word → Instr) : List Byte → Dec
  | b0 :: b1 :: b2 :: b3 :: rest => .ok (k (wordOfBytes b0 b1) (wordOfBytes b2 b3), rest)
  | _ => .error .noImmediate

/-- ENTER's frame size word, then its level byte (R115 (g)). -/
def fmtImm16Imm8 (k : Word → Byte → Instr) : List Byte → Dec
  | lo :: hi :: b :: rest => .ok (k (wordOfBytes lo hi) b, rest)
  | _ => .error .noImmediate

/-- The ModRM byte after the opcode (R120). -/
def withModRM (k : ModRM → List Byte → Dec) : List Byte → Dec
  | b :: rest => k (ModRM.ofByte b) rest
  | [] => .error .noModRM

/-- The memory operand of `mod` 0, 1 or 2 with its displacement bytes (R123). -/
def withMem (m : ModRM) (k : MemOp → List Byte → Dec) (bs : List Byte) : Dec :=
  match m.mod.toNat with
  | 0 =>
    if m.rm = 6#3 then
      match bs with
      | lo :: hi :: rest => k (.direct (wordOfBytes lo hi)) rest
      | _ => .error .noDisplacement
    else k (.disp0 (EaBase.ofCode m.rm)) bs
  | 1 =>
    match bs with
    | d :: rest => k (.disp8 (EaBase.ofCode m.rm) d) rest
    | [] => .error .noDisplacement
  | _ =>
    match bs with
    | lo :: hi :: rest => k (.disp16 (EaBase.ofCode m.rm) (wordOfBytes lo hi)) rest
    | _ => .error .noDisplacement

/-- The `r/m` operand at operand width 8 (R122, R123). -/
def withRM8 (m : ModRM) (k : RM Reg8 → List Byte → Dec) (bs : List Byte) : Dec :=
  if m.mod = 3#2 then k (.reg (Reg8.ofCode m.rm)) bs else withMem m (fun mo => k (.mem mo)) bs

/-- The `r/m` operand at operand width 16 (R122, R123). -/
def withRM16 (m : ModRM) (k : RM Reg16 → List Byte → Dec) (bs : List Byte) : Dec :=
  if m.mod = 3#2 then k (.reg (Reg16.ofCode m.rm)) bs else withMem m (fun mo => k (.mem mo)) bs

/-- `r/m8` with the byte register of `reg`: the forms Eb,Gb and Gb,Eb. -/
def fmtE8G8 (k : RM Reg8 → Reg8 → Instr) : List Byte → Dec :=
  withModRM fun m => withRM8 m fun e => fmtOp (k e (Reg8.ofCode m.reg))

/-- `r/m16` with the word register of `reg`: the forms Ev,Gv and Gv,Ev. -/
def fmtE16G16 (k : RM Reg16 → Reg16 → Instr) : List Byte → Dec :=
  withModRM fun m => withRM16 m fun e => fmtOp (k e (Reg16.ofCode m.reg))

/-- A memory-only operand with the word register of `reg`; `mod` 3 is the illegal row `bad` (R128, R140). -/
def fmtG16M (k : Reg16 → MemOp → Instr) (bad : Instr) : List Byte → Dec :=
  withModRM fun m =>
    if m.mod = 3#2 then fmtOp bad else withMem m fun mo => fmtOp (k (Reg16.ofCode m.reg) mo)

/-- A group entry with an `r/m8` operand and nothing after it. -/
def grpE8 (k : RM Reg8 → Instr) (m : ModRM) : List Byte → Dec := withRM8 m fun e => fmtOp (k e)

/-- A group entry with an `r/m16` operand and nothing after it. -/
def grpE16 (k : RM Reg16 → Instr) (m : ModRM) : List Byte → Dec := withRM16 m fun e => fmtOp (k e)

/-- A group entry with an `r/m8` operand, then an immediate byte (displacement first, R124). -/
def grpE8Imm8 (k : RM Reg8 → Byte → Instr) (m : ModRM) : List Byte → Dec := withRM8 m fun e => fmtImm8 (k e)

/-- A group entry with an `r/m16` operand, then an immediate byte. -/
def grpE16Imm8 (k : RM Reg16 → Byte → Instr) (m : ModRM) : List Byte → Dec := withRM16 m fun e => fmtImm8 (k e)

/-- A group entry with an `r/m16` operand, then an immediate word. -/
def grpE16Imm16 (k : RM Reg16 → Word → Instr) (m : ModRM) : List Byte → Dec := withRM16 m fun e => fmtImm16 (k e)

/-- A group entry with a memory-only operand; `mod` 3 is the illegal row `bad` (R128, R140). -/
def grpM (k : MemOp → Instr) (bad : Instr) (m : ModRM) (bs : List Byte) : Dec :=
  if m.mod = 3#2 then fmtOp bad bs else withMem m (fun mo => fmtOp (k mo)) bs

/-- An illegal group entry: classified on the ModRM byte, no displacement or immediate fetched (R140). -/
def grpBad (i : Instr) (bs : List Byte) : Dec := fmtOp i bs

/-! ### The groups (30_encoding.md R131): the operation is ModRM `reg` -/

def decodeGroup80 (m : ModRM) (bs : List Byte) : Dec :=
  match m.reg.toNat with
  | 0 => grpE8Imm8 .addEbIb m bs
  | 1 => grpE8Imm8 .orEbIb m bs
  | 2 => grpE8Imm8 .adcEbIb m bs
  | 3 => grpE8Imm8 .sbbEbIb m bs
  | 4 => grpE8Imm8 .andEbIb m bs
  | 5 => grpE8Imm8 .subEbIb m bs
  | 6 => grpE8Imm8 .xorEbIb m bs
  | _ => grpE8Imm8 .cmpEbIb m bs

def decodeGroup81 (m : ModRM) (bs : List Byte) : Dec :=
  match m.reg.toNat with
  | 0 => grpE16Imm16 .addEvIw m bs
  | 1 => grpE16Imm16 .orEvIw m bs
  | 2 => grpE16Imm16 .adcEvIw m bs
  | 3 => grpE16Imm16 .sbbEvIw m bs
  | 4 => grpE16Imm16 .andEvIw m bs
  | 5 => grpE16Imm16 .subEvIw m bs
  | 6 => grpE16Imm16 .xorEvIw m bs
  | _ => grpE16Imm16 .cmpEvIw m bs

def decodeGroup82 (m : ModRM) (bs : List Byte) : Dec :=
  match m.reg.toNat with
  | 0 => grpE8Imm8 .addEbIb82 m bs
  | 1 => grpE8Imm8 .orEbIb82 m bs
  | 2 => grpE8Imm8 .adcEbIb82 m bs
  | 3 => grpE8Imm8 .sbbEbIb82 m bs
  | 4 => grpE8Imm8 .andEbIb82 m bs
  | 5 => grpE8Imm8 .subEbIb82 m bs
  | 6 => grpE8Imm8 .xorEbIb82 m bs
  | _ => grpE8Imm8 .cmpEbIb82 m bs

def decodeGroup83 (m : ModRM) (bs : List Byte) : Dec :=
  match m.reg.toNat with
  | 0 => grpE16Imm8 .addEvIbS m bs
  | 1 => grpE16Imm8 .orEvIbS m bs
  | 2 => grpE16Imm8 .adcEvIbS m bs
  | 3 => grpE16Imm8 .sbbEvIbS m bs
  | 4 => grpE16Imm8 .andEvIbS m bs
  | 5 => grpE16Imm8 .subEvIbS m bs
  | 6 => grpE16Imm8 .xorEvIbS m bs
  | _ => grpE16Imm8 .cmpEvIbS m bs

def decodeGroup8C (m : ModRM) (bs : List Byte) : Dec :=
  match m.reg.toNat with
  | 0 => grpE16 .movEwEs m bs
  | 1 => grpE16 .movEwCs m bs
  | 2 => grpE16 .movEwSs m bs
  | 3 => grpE16 .movEwDs m bs
  | 4 => grpBad .illegal8Cr4 bs
  | 5 => grpBad .illegal8Cr5 bs
  | 6 => grpBad .illegal8Cr6 bs
  | _ => grpBad .illegal8Cr7 bs

def decodeGroup8E (m : ModRM) (bs : List Byte) : Dec :=
  match m.reg.toNat with
  | 0 => grpE16 .movEsEw m bs
  | 1 => grpBad .illegal8Er1 bs
  | 2 => grpE16 .movSsEw m bs
  | 3 => grpE16 .movDsEw m bs
  | 4 => grpBad .illegal8Er4 bs
  | 5 => grpBad .illegal8Er5 bs
  | 6 => grpBad .illegal8Er6 bs
  | _ => grpBad .illegal8Er7 bs

def decodeGroup8F (m : ModRM) (bs : List Byte) : Dec :=
  match m.reg.toNat with
  | 0 => grpE16 .popEv m bs
  | 1 => grpBad .illegal8Fr1 bs
  | 2 => grpBad .illegal8Fr2 bs
  | 3 => grpBad .illegal8Fr3 bs
  | 4 => grpBad .illegal8Fr4 bs
  | 5 => grpBad .illegal8Fr5 bs
  | 6 => grpBad .illegal8Fr6 bs
  | _ => grpBad .illegal8Fr7 bs

def decodeGroupC0 (m : ModRM) (bs : List Byte) : Dec :=
  match m.reg.toNat with
  | 0 => grpE8Imm8 .rolEbIb m bs
  | 1 => grpE8Imm8 .rorEbIb m bs
  | 2 => grpE8Imm8 .rclEbIb m bs
  | 3 => grpE8Imm8 .rcrEbIb m bs
  | 4 => grpE8Imm8 .shlEbIb m bs
  | 5 => grpE8Imm8 .shrEbIb m bs
  | 6 => grpBad .illegalC0r6 bs
  | _ => grpE8Imm8 .sarEbIb m bs

def decodeGroupC1 (m : ModRM) (bs : List Byte) : Dec :=
  match m.reg.toNat with
  | 0 => grpE16Imm8 .rolEvIb m bs
  | 1 => grpE16Imm8 .rorEvIb m bs
  | 2 => grpE16Imm8 .rclEvIb m bs
  | 3 => grpE16Imm8 .rcrEvIb m bs
  | 4 => grpE16Imm8 .shlEvIb m bs
  | 5 => grpE16Imm8 .shrEvIb m bs
  | 6 => grpBad .illegalC1r6 bs
  | _ => grpE16Imm8 .sarEvIb m bs

def decodeGroupC6 (m : ModRM) (bs : List Byte) : Dec :=
  match m.reg.toNat with
  | 0 => grpE8Imm8 .movEbIb m bs
  | 1 => grpBad .illegalC6r1 bs
  | 2 => grpBad .illegalC6r2 bs
  | 3 => grpBad .illegalC6r3 bs
  | 4 => grpBad .illegalC6r4 bs
  | 5 => grpBad .illegalC6r5 bs
  | 6 => grpBad .illegalC6r6 bs
  | _ => grpBad .illegalC6r7 bs

def decodeGroupC7 (m : ModRM) (bs : List Byte) : Dec :=
  match m.reg.toNat with
  | 0 => grpE16Imm16 .movEvIw m bs
  | 1 => grpBad .illegalC7r1 bs
  | 2 => grpBad .illegalC7r2 bs
  | 3 => grpBad .illegalC7r3 bs
  | 4 => grpBad .illegalC7r4 bs
  | 5 => grpBad .illegalC7r5 bs
  | 6 => grpBad .illegalC7r6 bs
  | _ => grpBad .illegalC7r7 bs

def decodeGroupD0 (m : ModRM) (bs : List Byte) : Dec :=
  match m.reg.toNat with
  | 0 => grpE8 .rolEb1 m bs
  | 1 => grpE8 .rorEb1 m bs
  | 2 => grpE8 .rclEb1 m bs
  | 3 => grpE8 .rcrEb1 m bs
  | 4 => grpE8 .shlEb1 m bs
  | 5 => grpE8 .shrEb1 m bs
  | 6 => grpBad .illegalD0r6 bs
  | _ => grpE8 .sarEb1 m bs

def decodeGroupD1 (m : ModRM) (bs : List Byte) : Dec :=
  match m.reg.toNat with
  | 0 => grpE16 .rolEv1 m bs
  | 1 => grpE16 .rorEv1 m bs
  | 2 => grpE16 .rclEv1 m bs
  | 3 => grpE16 .rcrEv1 m bs
  | 4 => grpE16 .shlEv1 m bs
  | 5 => grpE16 .shrEv1 m bs
  | 6 => grpBad .illegalD1r6 bs
  | _ => grpE16 .sarEv1 m bs

def decodeGroupD2 (m : ModRM) (bs : List Byte) : Dec :=
  match m.reg.toNat with
  | 0 => grpE8 .rolEbCl m bs
  | 1 => grpE8 .rorEbCl m bs
  | 2 => grpE8 .rclEbCl m bs
  | 3 => grpE8 .rcrEbCl m bs
  | 4 => grpE8 .shlEbCl m bs
  | 5 => grpE8 .shrEbCl m bs
  | 6 => grpBad .illegalD2r6 bs
  | _ => grpE8 .sarEbCl m bs

def decodeGroupD3 (m : ModRM) (bs : List Byte) : Dec :=
  match m.reg.toNat with
  | 0 => grpE16 .rolEvCl m bs
  | 1 => grpE16 .rorEvCl m bs
  | 2 => grpE16 .rclEvCl m bs
  | 3 => grpE16 .rcrEvCl m bs
  | 4 => grpE16 .shlEvCl m bs
  | 5 => grpE16 .shrEvCl m bs
  | 6 => grpBad .illegalD3r6 bs
  | _ => grpE16 .sarEvCl m bs

def decodeGroupF6 (m : ModRM) (bs : List Byte) : Dec :=
  match m.reg.toNat with
  | 0 => grpE8Imm8 .testEbIb m bs
  | 1 => grpBad .illegalF6r1 bs
  | 2 => grpE8 .notEb m bs
  | 3 => grpE8 .negEb m bs
  | 4 => grpE8 .mulEb m bs
  | 5 => grpE8 .imulEb m bs
  | 6 => grpE8 .divEb m bs
  | _ => grpE8 .idivEb m bs

def decodeGroupF7 (m : ModRM) (bs : List Byte) : Dec :=
  match m.reg.toNat with
  | 0 => grpE16Imm16 .testEvIw m bs
  | 1 => grpBad .illegalF7r1 bs
  | 2 => grpE16 .notEv m bs
  | 3 => grpE16 .negEv m bs
  | 4 => grpE16 .mulEv m bs
  | 5 => grpE16 .imulEv m bs
  | 6 => grpE16 .divEv m bs
  | _ => grpE16 .idivEv m bs

def decodeGroupFE (m : ModRM) (bs : List Byte) : Dec :=
  match m.reg.toNat with
  | 0 => grpE8 .incEb m bs
  | 1 => grpE8 .decEb m bs
  | 2 => grpBad .illegalFEr2 bs
  | 3 => grpBad .illegalFEr3 bs
  | 4 => grpBad .illegalFEr4 bs
  | 5 => grpBad .illegalFEr5 bs
  | 6 => grpBad .illegalFEr6 bs
  | _ => grpBad .illegalFEr7 bs

def decodeGroupFF (m : ModRM) (bs : List Byte) : Dec :=
  match m.reg.toNat with
  | 0 => grpE16 .incEv m bs
  | 1 => grpE16 .decEv m bs
  | 2 => grpE16 .callEv m bs
  | 3 => grpM .callMpFar .illegalFFr3mod3 m bs
  | 4 => grpE16 .jmpEv m bs
  | 5 => grpM .jmpMpFar .illegalFFr5mod3 m bs
  | 6 => grpE16 .pushEv m bs
  | _ => grpBad .illegalFFr7 bs

/-! ### The opcode map (30_encoding.md R130), a row for each high nibble; `lo` is the low nibble -/

def decodeRow0 (lo : Nat) (bs : List Byte) : Dec :=
  match lo with
  | 0x0 => fmtE8G8 .addEbGb bs
  | 0x1 => fmtE16G16 .addEvGv bs
  | 0x2 => fmtE8G8 (fun e g => .addGbEb g e) bs
  | 0x3 => fmtE16G16 (fun e g => .addGvEv g e) bs
  | 0x4 => fmtImm8 .addAlIb bs
  | 0x5 => fmtImm16 .addAxIw bs
  | 0x6 => fmtOp .pushEs bs
  | 0x7 => fmtOp .popEs bs
  | 0x8 => fmtE8G8 .orEbGb bs
  | 0x9 => fmtE16G16 .orEvGv bs
  | 0xA => fmtE8G8 (fun e g => .orGbEb g e) bs
  | 0xB => fmtE16G16 (fun e g => .orGvEv g e) bs
  | 0xC => fmtImm8 .orAlIb bs
  | 0xD => fmtImm16 .orAxIw bs
  | 0xE => fmtOp .pushCs bs
  | _ => fmtOp .illegal0F bs

def decodeRow1 (lo : Nat) (bs : List Byte) : Dec :=
  match lo with
  | 0x0 => fmtE8G8 .adcEbGb bs
  | 0x1 => fmtE16G16 .adcEvGv bs
  | 0x2 => fmtE8G8 (fun e g => .adcGbEb g e) bs
  | 0x3 => fmtE16G16 (fun e g => .adcGvEv g e) bs
  | 0x4 => fmtImm8 .adcAlIb bs
  | 0x5 => fmtImm16 .adcAxIw bs
  | 0x6 => fmtOp .pushSs bs
  | 0x7 => fmtOp .popSs bs
  | 0x8 => fmtE8G8 .sbbEbGb bs
  | 0x9 => fmtE16G16 .sbbEvGv bs
  | 0xA => fmtE8G8 (fun e g => .sbbGbEb g e) bs
  | 0xB => fmtE16G16 (fun e g => .sbbGvEv g e) bs
  | 0xC => fmtImm8 .sbbAlIb bs
  | 0xD => fmtImm16 .sbbAxIw bs
  | 0xE => fmtOp .pushDs bs
  | _ => fmtOp .popDs bs

def decodeRow2 (lo : Nat) (bs : List Byte) : Dec :=
  match lo with
  | 0x0 => fmtE8G8 .andEbGb bs
  | 0x1 => fmtE16G16 .andEvGv bs
  | 0x2 => fmtE8G8 (fun e g => .andGbEb g e) bs
  | 0x3 => fmtE16G16 (fun e g => .andGvEv g e) bs
  | 0x4 => fmtImm8 .andAlIb bs
  | 0x5 => fmtImm16 .andAxIw bs
  | 0x6 => fmtOp .prefixEs bs
  | 0x7 => fmtOp .daa bs
  | 0x8 => fmtE8G8 .subEbGb bs
  | 0x9 => fmtE16G16 .subEvGv bs
  | 0xA => fmtE8G8 (fun e g => .subGbEb g e) bs
  | 0xB => fmtE16G16 (fun e g => .subGvEv g e) bs
  | 0xC => fmtImm8 .subAlIb bs
  | 0xD => fmtImm16 .subAxIw bs
  | 0xE => fmtOp .prefixCs bs
  | _ => fmtOp .das bs

def decodeRow3 (lo : Nat) (bs : List Byte) : Dec :=
  match lo with
  | 0x0 => fmtE8G8 .xorEbGb bs
  | 0x1 => fmtE16G16 .xorEvGv bs
  | 0x2 => fmtE8G8 (fun e g => .xorGbEb g e) bs
  | 0x3 => fmtE16G16 (fun e g => .xorGvEv g e) bs
  | 0x4 => fmtImm8 .xorAlIb bs
  | 0x5 => fmtImm16 .xorAxIw bs
  | 0x6 => fmtOp .prefixSs bs
  | 0x7 => fmtOp .aaa bs
  | 0x8 => fmtE8G8 .cmpEbGb bs
  | 0x9 => fmtE16G16 .cmpEvGv bs
  | 0xA => fmtE8G8 (fun e g => .cmpGbEb g e) bs
  | 0xB => fmtE16G16 (fun e g => .cmpGvEv g e) bs
  | 0xC => fmtImm8 .cmpAlIb bs
  | 0xD => fmtImm16 .cmpAxIw bs
  | 0xE => fmtOp .prefixDs bs
  | _ => fmtOp .aas bs

def decodeRow4 (lo : Nat) (bs : List Byte) : Dec :=
  match lo with
  | 0x0 | 0x1 | 0x2 | 0x3 | 0x4 | 0x5 | 0x6 | 0x7 => fmtOp (.incR16 (Reg16.ofCode (BitVec.ofNat 3 (lo % 8)))) bs
  | _ => fmtOp (.decR16 (Reg16.ofCode (BitVec.ofNat 3 (lo % 8)))) bs

def decodeRow5 (lo : Nat) (bs : List Byte) : Dec :=
  match lo with
  | 0x0 | 0x1 | 0x2 | 0x3 | 0x4 | 0x5 | 0x6 | 0x7 => fmtOp (.pushR16 (Reg16.ofCode (BitVec.ofNat 3 (lo % 8)))) bs
  | _ => fmtOp (.popR16 (Reg16.ofCode (BitVec.ofNat 3 (lo % 8)))) bs

def decodeRow6 (mode : CpuMode) (lo : Nat) (bs : List Byte) : Dec :=
  match lo with
  | 0x0 => if mode.isV20 then fmtOp .pusha bs else fmtOp .illegalI8088x60 bs
  | 0x1 => if mode.isV20 then fmtOp .popa bs else fmtOp .illegalI8088x61 bs
  | 0x2 => if mode.isV20 then fmtG16M .boundGvMa .illegal62mod3 bs else fmtOp .illegalI8088x62 bs
  | 0x3 => fmtOp .illegal63 bs
  | 0x4 => fmtOp .illegal64 bs
  | 0x5 => fmtOp .illegal65 bs
  | 0x6 => fmtOp .illegal66 bs
  | 0x7 => fmtOp .illegal67 bs
  | 0x8 => if mode.isV20 then fmtImm16 .pushIw bs else fmtOp .illegalI8088x68 bs
  | 0x9 => if mode.isV20 then withModRM (fun m => grpE16Imm16 (.imulGvEvIw (Reg16.ofCode m.reg)) m) bs else fmtOp .illegalI8088x69 bs
  | 0xA => if mode.isV20 then fmtImm8 .pushIbS bs else fmtOp .illegalI8088x6A bs
  | 0xB => if mode.isV20 then withModRM (fun m => grpE16Imm8 (.imulGvEvIbS (Reg16.ofCode m.reg)) m) bs else fmtOp .illegalI8088x6B bs
  | 0xC => if mode.isV20 then fmtOp .insb bs else fmtOp .illegalI8088x6C bs
  | 0xD => if mode.isV20 then fmtOp .insw bs else fmtOp .illegalI8088x6D bs
  | 0xE => if mode.isV20 then fmtOp .outsb bs else fmtOp .illegalI8088x6E bs
  | _ => if mode.isV20 then fmtOp .outsw bs else fmtOp .illegalI8088x6F bs

def decodeRow7 (lo : Nat) (bs : List Byte) : Dec :=
  match lo with
  | 0x0 => fmtImm8 .joRel8 bs
  | 0x1 => fmtImm8 .jnoRel8 bs
  | 0x2 => fmtImm8 .jbRel8 bs
  | 0x3 => fmtImm8 .jaeRel8 bs
  | 0x4 => fmtImm8 .jeRel8 bs
  | 0x5 => fmtImm8 .jneRel8 bs
  | 0x6 => fmtImm8 .jbeRel8 bs
  | 0x7 => fmtImm8 .jaRel8 bs
  | 0x8 => fmtImm8 .jsRel8 bs
  | 0x9 => fmtImm8 .jnsRel8 bs
  | 0xA => fmtImm8 .jpRel8 bs
  | 0xB => fmtImm8 .jnpRel8 bs
  | 0xC => fmtImm8 .jlRel8 bs
  | 0xD => fmtImm8 .jgeRel8 bs
  | 0xE => fmtImm8 .jleRel8 bs
  | _ => fmtImm8 .jgRel8 bs

def decodeRow8 (lo : Nat) (bs : List Byte) : Dec :=
  match lo with
  | 0x0 => withModRM decodeGroup80 bs
  | 0x1 => withModRM decodeGroup81 bs
  | 0x2 => withModRM decodeGroup82 bs
  | 0x3 => withModRM decodeGroup83 bs
  | 0x4 => fmtE8G8 .testEbGb bs
  | 0x5 => fmtE16G16 .testEvGv bs
  | 0x6 => fmtE8G8 .xchgEbGb bs
  | 0x7 => fmtE16G16 .xchgEvGv bs
  | 0x8 => fmtE8G8 .movEbGb bs
  | 0x9 => fmtE16G16 .movEvGv bs
  | 0xA => fmtE8G8 (fun e g => .movGbEb g e) bs
  | 0xB => fmtE16G16 (fun e g => .movGvEv g e) bs
  | 0xC => withModRM decodeGroup8C bs
  | 0xD => fmtG16M .leaGvM .illegal8Dmod3 bs
  | 0xE => withModRM decodeGroup8E bs
  | _ => withModRM decodeGroup8F bs

def decodeRow9 (lo : Nat) (bs : List Byte) : Dec :=
  match lo with
  | 0x0 => fmtOp .nop bs
  | 0x1 | 0x2 | 0x3 | 0x4 | 0x5 | 0x6 | 0x7 => fmtOp (.xchgAxR16 (Reg16.ofCode (BitVec.ofNat 3 (lo % 8)))) bs
  | 0x8 => fmtOp .cbw bs
  | 0x9 => fmtOp .cwd bs
  | 0xA => fmtPtr .callPtr bs
  | 0xB => fmtOp .wait bs
  | 0xC => fmtOp .pushf bs
  | 0xD => fmtOp .popf bs
  | 0xE => fmtOp .sahf bs
  | _ => fmtOp .lahf bs

def decodeRowA (lo : Nat) (bs : List Byte) : Dec :=
  match lo with
  | 0x0 => fmtImm16 .movAlOb bs
  | 0x1 => fmtImm16 .movAxOv bs
  | 0x2 => fmtImm16 .movObAl bs
  | 0x3 => fmtImm16 .movOvAx bs
  | 0x4 => fmtOp .movsb bs
  | 0x5 => fmtOp .movsw bs
  | 0x6 => fmtOp .cmpsb bs
  | 0x7 => fmtOp .cmpsw bs
  | 0x8 => fmtImm8 .testAlIb bs
  | 0x9 => fmtImm16 .testAxIw bs
  | 0xA => fmtOp .stosb bs
  | 0xB => fmtOp .stosw bs
  | 0xC => fmtOp .lodsb bs
  | 0xD => fmtOp .lodsw bs
  | 0xE => fmtOp .scasb bs
  | _ => fmtOp .scasw bs

def decodeRowB (lo : Nat) (bs : List Byte) : Dec :=
  match lo with
  | 0x0 | 0x1 | 0x2 | 0x3 | 0x4 | 0x5 | 0x6 | 0x7 => fmtImm8 (.movR8Ib (Reg8.ofCode (BitVec.ofNat 3 (lo % 8)))) bs
  | _ => fmtImm16 (.movR16Iw (Reg16.ofCode (BitVec.ofNat 3 (lo % 8)))) bs

def decodeRowC (mode : CpuMode) (lo : Nat) (bs : List Byte) : Dec :=
  match lo with
  | 0x0 => if mode.isV20 then withModRM decodeGroupC0 bs else fmtOp .illegalI8088xC0 bs
  | 0x1 => if mode.isV20 then withModRM decodeGroupC1 bs else fmtOp .illegalI8088xC1 bs
  | 0x2 => fmtImm16 .retIw bs
  | 0x3 => fmtOp .ret bs
  | 0x4 => fmtG16M .lesGvMp .illegalC4mod3 bs
  | 0x5 => fmtG16M .ldsGvMp .illegalC5mod3 bs
  | 0x6 => withModRM decodeGroupC6 bs
  | 0x7 => withModRM decodeGroupC7 bs
  | 0x8 => if mode.isV20 then fmtImm16Imm8 .enterIwIb bs else fmtOp .illegalI8088xC8 bs
  | 0x9 => if mode.isV20 then fmtOp .leave bs else fmtOp .illegalI8088xC9 bs
  | 0xA => fmtImm16 .retfIw bs
  | 0xB => fmtOp .retf bs
  | 0xC => fmtOp .int3 bs
  | 0xD => fmtImm8 .intIb bs
  | 0xE => fmtOp .into bs
  | _ => fmtOp .iret bs

def decodeRowD (lo : Nat) (bs : List Byte) : Dec :=
  match lo with
  | 0x0 => withModRM decodeGroupD0 bs
  | 0x1 => withModRM decodeGroupD1 bs
  | 0x2 => withModRM decodeGroupD2 bs
  | 0x3 => withModRM decodeGroupD3 bs
  | 0x4 => fmtImm8 .aamIb bs
  | 0x5 => fmtImm8 .aadIb bs
  | 0x6 => fmtOp .illegalD6 bs
  | 0x7 => fmtOp .xlat bs
  | _ => withModRM (fun m => withRM16 m fun e => fmtOp (.esc (BitVec.ofNat 3 (lo % 8)) m.reg e)) bs

def decodeRowE (lo : Nat) (bs : List Byte) : Dec :=
  match lo with
  | 0x0 => fmtImm8 .loopneRel8 bs
  | 0x1 => fmtImm8 .loopeRel8 bs
  | 0x2 => fmtImm8 .loopRel8 bs
  | 0x3 => fmtImm8 .jcxzRel8 bs
  | 0x4 => fmtImm8 .inAlIb bs
  | 0x5 => fmtImm8 .inAxIb bs
  | 0x6 => fmtImm8 .outIbAl bs
  | 0x7 => fmtImm8 .outIbAx bs
  | 0x8 => fmtImm16 .callRel16 bs
  | 0x9 => fmtImm16 .jmpRel16 bs
  | 0xA => fmtPtr .jmpPtr bs
  | 0xB => fmtImm8 .jmpRel8 bs
  | 0xC => fmtOp .inAlDx bs
  | 0xD => fmtOp .inAxDx bs
  | 0xE => fmtOp .outDxAl bs
  | _ => fmtOp .outDxAx bs

def decodeRowF (lo : Nat) (bs : List Byte) : Dec :=
  match lo with
  | 0x0 => fmtOp .prefixLock bs
  | 0x1 => fmtOp .illegalF1 bs
  | 0x2 => fmtOp .prefixRepne bs
  | 0x3 => fmtOp .prefixRep bs
  | 0x4 => fmtOp .hlt bs
  | 0x5 => fmtOp .cmc bs
  | 0x6 => withModRM decodeGroupF6 bs
  | 0x7 => withModRM decodeGroupF7 bs
  | 0x8 => fmtOp .clc bs
  | 0x9 => fmtOp .stc bs
  | 0xA => fmtOp .cli bs
  | 0xB => fmtOp .sti bs
  | 0xC => fmtOp .cld bs
  | 0xD => fmtOp .std bs
  | 0xE => withModRM decodeGroupFE bs
  | _ => withModRM decodeGroupFF bs

/-- The decoder: the opcode byte selects a row of the map (R112), in the CPU mode (R140, R141). -/
def decode (mode : CpuMode) : List Byte → Dec
  | [] => .error .noOpcode
  | op :: bs =>
    let lo := op.toNat % 16
    match op.toNat / 16 with
    | 0x0 => decodeRow0 lo bs
    | 0x1 => decodeRow1 lo bs
    | 0x2 => decodeRow2 lo bs
    | 0x3 => decodeRow3 lo bs
    | 0x4 => decodeRow4 lo bs
    | 0x5 => decodeRow5 lo bs
    | 0x6 => decodeRow6 mode lo bs
    | 0x7 => decodeRow7 lo bs
    | 0x8 => decodeRow8 lo bs
    | 0x9 => decodeRow9 lo bs
    | 0xA => decodeRowA lo bs
    | 0xB => decodeRowB lo bs
    | 0xC => decodeRowC mode lo bs
    | 0xD => decodeRowD lo bs
    | 0xE => decodeRowE lo bs
    | _ => decodeRowF lo bs

/-- The seven prefix rows (30_encoding.md R111). -/
def Instr.isPrefix : Instr → Bool
  | .prefixEs | .prefixCs | .prefixSs | .prefixDs | .prefixLock | .prefixRepne | .prefixRep => true
  | _ => false

/-! ### The encoder, from the same tables -/

/-- A word as two bytes, low first (20_memory.md R88). -/
def encWord (w : Word) : List Byte := [loByte w, hiByte w]

/-- The ModRM byte and displacement of a memory operand (30_encoding.md R123). -/
def encMem (reg : BitVec 3) : MemOp → List Byte
  | .direct a => ModRM.toByte ⟨0#2, reg, 6#3⟩ :: encWord a
  | .disp0 b => [ModRM.toByte ⟨0#2, reg, b.code⟩]
  | .disp8 b d => [ModRM.toByte ⟨1#2, reg, b.code⟩, d]
  | .disp16 b d => ModRM.toByte ⟨2#2, reg, b.code⟩ :: encWord d

/-- The ModRM byte and displacement of an `r/m8` operand. -/
def encRM8 (reg : BitVec 3) : RM Reg8 → List Byte
  | .reg r => [ModRM.toByte ⟨3#2, reg, r.code⟩]
  | .mem m => encMem reg m

/-- The ModRM byte and displacement of an `r/m16` operand. -/
def encRM16 (reg : BitVec 3) : RM Reg16 → List Byte
  | .reg r => [ModRM.toByte ⟨3#2, reg, r.code⟩]
  | .mem m => encMem reg m

/-- An opcode byte whose low three bits are a code. -/
def opPlus (base : Byte) (c : BitVec 3) : Byte := base ||| c.setWidth 8

/-- The bytes of an instruction (30_encoding.md R114, R116, R130, R131). An illegal group row has its free ModRM bits 0,
or `mod` 3 where the row is about `mod` 3 (R140). -/
def encode : Instr → List Byte
  | .addEbGb e g => 0x00#8 :: encRM8 g.code e
  | .addEvGv e g => 0x01#8 :: encRM16 g.code e
  | .addGbEb g e => 0x02#8 :: encRM8 g.code e
  | .addGvEv g e => 0x03#8 :: encRM16 g.code e
  | .addAlIb v => [0x04#8, v]
  | .addAxIw v => 0x05#8 :: encWord v
  | .orEbGb e g => 0x08#8 :: encRM8 g.code e
  | .orEvGv e g => 0x09#8 :: encRM16 g.code e
  | .orGbEb g e => 0x0A#8 :: encRM8 g.code e
  | .orGvEv g e => 0x0B#8 :: encRM16 g.code e
  | .orAlIb v => [0x0C#8, v]
  | .orAxIw v => 0x0D#8 :: encWord v
  | .adcEbGb e g => 0x10#8 :: encRM8 g.code e
  | .adcEvGv e g => 0x11#8 :: encRM16 g.code e
  | .adcGbEb g e => 0x12#8 :: encRM8 g.code e
  | .adcGvEv g e => 0x13#8 :: encRM16 g.code e
  | .adcAlIb v => [0x14#8, v]
  | .adcAxIw v => 0x15#8 :: encWord v
  | .sbbEbGb e g => 0x18#8 :: encRM8 g.code e
  | .sbbEvGv e g => 0x19#8 :: encRM16 g.code e
  | .sbbGbEb g e => 0x1A#8 :: encRM8 g.code e
  | .sbbGvEv g e => 0x1B#8 :: encRM16 g.code e
  | .sbbAlIb v => [0x1C#8, v]
  | .sbbAxIw v => 0x1D#8 :: encWord v
  | .andEbGb e g => 0x20#8 :: encRM8 g.code e
  | .andEvGv e g => 0x21#8 :: encRM16 g.code e
  | .andGbEb g e => 0x22#8 :: encRM8 g.code e
  | .andGvEv g e => 0x23#8 :: encRM16 g.code e
  | .andAlIb v => [0x24#8, v]
  | .andAxIw v => 0x25#8 :: encWord v
  | .subEbGb e g => 0x28#8 :: encRM8 g.code e
  | .subEvGv e g => 0x29#8 :: encRM16 g.code e
  | .subGbEb g e => 0x2A#8 :: encRM8 g.code e
  | .subGvEv g e => 0x2B#8 :: encRM16 g.code e
  | .subAlIb v => [0x2C#8, v]
  | .subAxIw v => 0x2D#8 :: encWord v
  | .xorEbGb e g => 0x30#8 :: encRM8 g.code e
  | .xorEvGv e g => 0x31#8 :: encRM16 g.code e
  | .xorGbEb g e => 0x32#8 :: encRM8 g.code e
  | .xorGvEv g e => 0x33#8 :: encRM16 g.code e
  | .xorAlIb v => [0x34#8, v]
  | .xorAxIw v => 0x35#8 :: encWord v
  | .cmpEbGb e g => 0x38#8 :: encRM8 g.code e
  | .cmpEvGv e g => 0x39#8 :: encRM16 g.code e
  | .cmpGbEb g e => 0x3A#8 :: encRM8 g.code e
  | .cmpGvEv g e => 0x3B#8 :: encRM16 g.code e
  | .cmpAlIb v => [0x3C#8, v]
  | .cmpAxIw v => 0x3D#8 :: encWord v
  | .incR16 r => [opPlus 0x40#8 r.code]
  | .decR16 r => [opPlus 0x48#8 r.code]
  | .pushR16 r => [opPlus 0x50#8 r.code]
  | .popR16 r => [opPlus 0x58#8 r.code]
  | .boundGvMa g m => 0x62#8 :: encMem g.code m
  | .pushIw v => 0x68#8 :: encWord v
  | .imulGvEvIw g e v => 0x69#8 :: (encRM16 g.code e ++ encWord v)
  | .pushIbS v => [0x6A#8, v]
  | .imulGvEvIbS g e v => 0x6B#8 :: (encRM16 g.code e ++ [v])
  | .joRel8 d => [0x70#8, d]
  | .jnoRel8 d => [0x71#8, d]
  | .jbRel8 d => [0x72#8, d]
  | .jaeRel8 d => [0x73#8, d]
  | .jeRel8 d => [0x74#8, d]
  | .jneRel8 d => [0x75#8, d]
  | .jbeRel8 d => [0x76#8, d]
  | .jaRel8 d => [0x77#8, d]
  | .jsRel8 d => [0x78#8, d]
  | .jnsRel8 d => [0x79#8, d]
  | .jpRel8 d => [0x7A#8, d]
  | .jnpRel8 d => [0x7B#8, d]
  | .jlRel8 d => [0x7C#8, d]
  | .jgeRel8 d => [0x7D#8, d]
  | .jleRel8 d => [0x7E#8, d]
  | .jgRel8 d => [0x7F#8, d]
  | .addEbIb e v => 0x80#8 :: (encRM8 0#3 e ++ [v])
  | .orEbIb e v => 0x80#8 :: (encRM8 1#3 e ++ [v])
  | .adcEbIb e v => 0x80#8 :: (encRM8 2#3 e ++ [v])
  | .sbbEbIb e v => 0x80#8 :: (encRM8 3#3 e ++ [v])
  | .andEbIb e v => 0x80#8 :: (encRM8 4#3 e ++ [v])
  | .subEbIb e v => 0x80#8 :: (encRM8 5#3 e ++ [v])
  | .xorEbIb e v => 0x80#8 :: (encRM8 6#3 e ++ [v])
  | .cmpEbIb e v => 0x80#8 :: (encRM8 7#3 e ++ [v])
  | .addEvIw e v => 0x81#8 :: (encRM16 0#3 e ++ encWord v)
  | .orEvIw e v => 0x81#8 :: (encRM16 1#3 e ++ encWord v)
  | .adcEvIw e v => 0x81#8 :: (encRM16 2#3 e ++ encWord v)
  | .sbbEvIw e v => 0x81#8 :: (encRM16 3#3 e ++ encWord v)
  | .andEvIw e v => 0x81#8 :: (encRM16 4#3 e ++ encWord v)
  | .subEvIw e v => 0x81#8 :: (encRM16 5#3 e ++ encWord v)
  | .xorEvIw e v => 0x81#8 :: (encRM16 6#3 e ++ encWord v)
  | .cmpEvIw e v => 0x81#8 :: (encRM16 7#3 e ++ encWord v)
  | .addEbIb82 e v => 0x82#8 :: (encRM8 0#3 e ++ [v])
  | .orEbIb82 e v => 0x82#8 :: (encRM8 1#3 e ++ [v])
  | .adcEbIb82 e v => 0x82#8 :: (encRM8 2#3 e ++ [v])
  | .sbbEbIb82 e v => 0x82#8 :: (encRM8 3#3 e ++ [v])
  | .andEbIb82 e v => 0x82#8 :: (encRM8 4#3 e ++ [v])
  | .subEbIb82 e v => 0x82#8 :: (encRM8 5#3 e ++ [v])
  | .xorEbIb82 e v => 0x82#8 :: (encRM8 6#3 e ++ [v])
  | .cmpEbIb82 e v => 0x82#8 :: (encRM8 7#3 e ++ [v])
  | .addEvIbS e v => 0x83#8 :: (encRM16 0#3 e ++ [v])
  | .orEvIbS e v => 0x83#8 :: (encRM16 1#3 e ++ [v])
  | .adcEvIbS e v => 0x83#8 :: (encRM16 2#3 e ++ [v])
  | .sbbEvIbS e v => 0x83#8 :: (encRM16 3#3 e ++ [v])
  | .andEvIbS e v => 0x83#8 :: (encRM16 4#3 e ++ [v])
  | .subEvIbS e v => 0x83#8 :: (encRM16 5#3 e ++ [v])
  | .xorEvIbS e v => 0x83#8 :: (encRM16 6#3 e ++ [v])
  | .cmpEvIbS e v => 0x83#8 :: (encRM16 7#3 e ++ [v])
  | .testEbGb e g => 0x84#8 :: encRM8 g.code e
  | .testEvGv e g => 0x85#8 :: encRM16 g.code e
  | .xchgEbGb e g => 0x86#8 :: encRM8 g.code e
  | .xchgEvGv e g => 0x87#8 :: encRM16 g.code e
  | .movEbGb e g => 0x88#8 :: encRM8 g.code e
  | .movEvGv e g => 0x89#8 :: encRM16 g.code e
  | .movGbEb g e => 0x8A#8 :: encRM8 g.code e
  | .movGvEv g e => 0x8B#8 :: encRM16 g.code e
  | .movEwEs e => 0x8C#8 :: encRM16 0#3 e
  | .movEwCs e => 0x8C#8 :: encRM16 1#3 e
  | .movEwSs e => 0x8C#8 :: encRM16 2#3 e
  | .movEwDs e => 0x8C#8 :: encRM16 3#3 e
  | .leaGvM g m => 0x8D#8 :: encMem g.code m
  | .movEsEw e => 0x8E#8 :: encRM16 0#3 e
  | .movSsEw e => 0x8E#8 :: encRM16 2#3 e
  | .movDsEw e => 0x8E#8 :: encRM16 3#3 e
  | .popEv e => 0x8F#8 :: encRM16 0#3 e
  | .xchgAxR16 r => [opPlus 0x90#8 r.code]
  | .callPtr off seg => 0x9A#8 :: (encWord off ++ encWord seg)
  | .movAlOb a => 0xA0#8 :: encWord a
  | .movAxOv a => 0xA1#8 :: encWord a
  | .movObAl a => 0xA2#8 :: encWord a
  | .movOvAx a => 0xA3#8 :: encWord a
  | .testAlIb v => [0xA8#8, v]
  | .testAxIw v => 0xA9#8 :: encWord v
  | .movR8Ib r v => [opPlus 0xB0#8 r.code, v]
  | .movR16Iw r v => opPlus 0xB8#8 r.code :: encWord v
  | .rolEbIb e v => 0xC0#8 :: (encRM8 0#3 e ++ [v])
  | .rorEbIb e v => 0xC0#8 :: (encRM8 1#3 e ++ [v])
  | .rclEbIb e v => 0xC0#8 :: (encRM8 2#3 e ++ [v])
  | .rcrEbIb e v => 0xC0#8 :: (encRM8 3#3 e ++ [v])
  | .shlEbIb e v => 0xC0#8 :: (encRM8 4#3 e ++ [v])
  | .shrEbIb e v => 0xC0#8 :: (encRM8 5#3 e ++ [v])
  | .sarEbIb e v => 0xC0#8 :: (encRM8 7#3 e ++ [v])
  | .rolEvIb e v => 0xC1#8 :: (encRM16 0#3 e ++ [v])
  | .rorEvIb e v => 0xC1#8 :: (encRM16 1#3 e ++ [v])
  | .rclEvIb e v => 0xC1#8 :: (encRM16 2#3 e ++ [v])
  | .rcrEvIb e v => 0xC1#8 :: (encRM16 3#3 e ++ [v])
  | .shlEvIb e v => 0xC1#8 :: (encRM16 4#3 e ++ [v])
  | .shrEvIb e v => 0xC1#8 :: (encRM16 5#3 e ++ [v])
  | .sarEvIb e v => 0xC1#8 :: (encRM16 7#3 e ++ [v])
  | .rolEb1 e => 0xD0#8 :: encRM8 0#3 e
  | .rorEb1 e => 0xD0#8 :: encRM8 1#3 e
  | .rclEb1 e => 0xD0#8 :: encRM8 2#3 e
  | .rcrEb1 e => 0xD0#8 :: encRM8 3#3 e
  | .shlEb1 e => 0xD0#8 :: encRM8 4#3 e
  | .shrEb1 e => 0xD0#8 :: encRM8 5#3 e
  | .sarEb1 e => 0xD0#8 :: encRM8 7#3 e
  | .rolEv1 e => 0xD1#8 :: encRM16 0#3 e
  | .rorEv1 e => 0xD1#8 :: encRM16 1#3 e
  | .rclEv1 e => 0xD1#8 :: encRM16 2#3 e
  | .rcrEv1 e => 0xD1#8 :: encRM16 3#3 e
  | .shlEv1 e => 0xD1#8 :: encRM16 4#3 e
  | .shrEv1 e => 0xD1#8 :: encRM16 5#3 e
  | .sarEv1 e => 0xD1#8 :: encRM16 7#3 e
  | .rolEbCl e => 0xD2#8 :: encRM8 0#3 e
  | .rorEbCl e => 0xD2#8 :: encRM8 1#3 e
  | .rclEbCl e => 0xD2#8 :: encRM8 2#3 e
  | .rcrEbCl e => 0xD2#8 :: encRM8 3#3 e
  | .shlEbCl e => 0xD2#8 :: encRM8 4#3 e
  | .shrEbCl e => 0xD2#8 :: encRM8 5#3 e
  | .sarEbCl e => 0xD2#8 :: encRM8 7#3 e
  | .rolEvCl e => 0xD3#8 :: encRM16 0#3 e
  | .rorEvCl e => 0xD3#8 :: encRM16 1#3 e
  | .rclEvCl e => 0xD3#8 :: encRM16 2#3 e
  | .rcrEvCl e => 0xD3#8 :: encRM16 3#3 e
  | .shlEvCl e => 0xD3#8 :: encRM16 4#3 e
  | .shrEvCl e => 0xD3#8 :: encRM16 5#3 e
  | .sarEvCl e => 0xD3#8 :: encRM16 7#3 e
  | .retIw v => 0xC2#8 :: encWord v
  | .lesGvMp g m => 0xC4#8 :: encMem g.code m
  | .ldsGvMp g m => 0xC5#8 :: encMem g.code m
  | .retfIw v => 0xCA#8 :: encWord v
  | .intIb v => [0xCD#8, v]
  | .aamIb v => [0xD4#8, v]
  | .aadIb v => [0xD5#8, v]
  | .movEbIb e v => 0xC6#8 :: (encRM8 0#3 e ++ [v])
  | .movEvIw e v => 0xC7#8 :: (encRM16 0#3 e ++ encWord v)
  | .enterIwIb size level => 0xC8#8 :: (encWord size ++ [level])
  | .esc x g e => opPlus 0xD8#8 x :: encRM16 g e
  | .loopneRel8 d => [0xE0#8, d]
  | .loopeRel8 d => [0xE1#8, d]
  | .loopRel8 d => [0xE2#8, d]
  | .jcxzRel8 d => [0xE3#8, d]
  | .inAlIb v => [0xE4#8, v]
  | .inAxIb v => [0xE5#8, v]
  | .outIbAl p => [0xE6#8, p]
  | .outIbAx p => [0xE7#8, p]
  | .callRel16 d => 0xE8#8 :: encWord d
  | .jmpRel16 d => 0xE9#8 :: encWord d
  | .jmpPtr off seg => 0xEA#8 :: (encWord off ++ encWord seg)
  | .jmpRel8 d => [0xEB#8, d]
  | .testEbIb e v => 0xF6#8 :: (encRM8 0#3 e ++ [v])
  | .notEb e => 0xF6#8 :: encRM8 2#3 e
  | .negEb e => 0xF6#8 :: encRM8 3#3 e
  | .mulEb e => 0xF6#8 :: encRM8 4#3 e
  | .imulEb e => 0xF6#8 :: encRM8 5#3 e
  | .divEb e => 0xF6#8 :: encRM8 6#3 e
  | .idivEb e => 0xF6#8 :: encRM8 7#3 e
  | .testEvIw e v => 0xF7#8 :: (encRM16 0#3 e ++ encWord v)
  | .notEv e => 0xF7#8 :: encRM16 2#3 e
  | .negEv e => 0xF7#8 :: encRM16 3#3 e
  | .mulEv e => 0xF7#8 :: encRM16 4#3 e
  | .imulEv e => 0xF7#8 :: encRM16 5#3 e
  | .divEv e => 0xF7#8 :: encRM16 6#3 e
  | .idivEv e => 0xF7#8 :: encRM16 7#3 e
  | .incEb e => 0xFE#8 :: encRM8 0#3 e
  | .decEb e => 0xFE#8 :: encRM8 1#3 e
  | .incEv e => 0xFF#8 :: encRM16 0#3 e
  | .decEv e => 0xFF#8 :: encRM16 1#3 e
  | .callEv e => 0xFF#8 :: encRM16 2#3 e
  | .callMpFar m => 0xFF#8 :: encMem 3#3 m
  | .jmpEv e => 0xFF#8 :: encRM16 4#3 e
  | .jmpMpFar m => 0xFF#8 :: encMem 5#3 m
  | .pushEv e => 0xFF#8 :: encRM16 6#3 e
  | .pushEs => [0x06#8]
  | .pushCs => [0x0E#8]
  | .pushSs => [0x16#8]
  | .pushDs => [0x1E#8]
  | .popEs => [0x07#8]
  | .popSs => [0x17#8]
  | .popDs => [0x1F#8]
  | .prefixEs => [0x26#8]
  | .prefixCs => [0x2E#8]
  | .prefixSs => [0x36#8]
  | .prefixDs => [0x3E#8]
  | .prefixLock => [0xF0#8]
  | .prefixRepne => [0xF2#8]
  | .prefixRep => [0xF3#8]
  | .daa => [0x27#8]
  | .das => [0x2F#8]
  | .aaa => [0x37#8]
  | .aas => [0x3F#8]
  | .pusha => [0x60#8]
  | .popa => [0x61#8]
  | .insb => [0x6C#8]
  | .insw => [0x6D#8]
  | .outsb => [0x6E#8]
  | .outsw => [0x6F#8]
  | .nop => [0x90#8]
  | .cbw => [0x98#8]
  | .cwd => [0x99#8]
  | .wait => [0x9B#8]
  | .pushf => [0x9C#8]
  | .popf => [0x9D#8]
  | .sahf => [0x9E#8]
  | .lahf => [0x9F#8]
  | .movsb => [0xA4#8]
  | .movsw => [0xA5#8]
  | .cmpsb => [0xA6#8]
  | .cmpsw => [0xA7#8]
  | .stosb => [0xAA#8]
  | .stosw => [0xAB#8]
  | .lodsb => [0xAC#8]
  | .lodsw => [0xAD#8]
  | .scasb => [0xAE#8]
  | .scasw => [0xAF#8]
  | .ret => [0xC3#8]
  | .retf => [0xCB#8]
  | .int3 => [0xCC#8]
  | .into => [0xCE#8]
  | .iret => [0xCF#8]
  | .xlat => [0xD7#8]
  | .leave => [0xC9#8]
  | .inAlDx => [0xEC#8]
  | .inAxDx => [0xED#8]
  | .outDxAl => [0xEE#8]
  | .outDxAx => [0xEF#8]
  | .hlt => [0xF4#8]
  | .cmc => [0xF5#8]
  | .clc => [0xF8#8]
  | .stc => [0xF9#8]
  | .cli => [0xFA#8]
  | .sti => [0xFB#8]
  | .cld => [0xFC#8]
  | .std => [0xFD#8]
  | .illegal0F => [0x0F#8]
  | .illegalI8088x60 => [0x60#8]
  | .illegalI8088x61 => [0x61#8]
  | .illegalI8088x62 => [0x62#8]
  | .illegalI8088x68 => [0x68#8]
  | .illegalI8088x69 => [0x69#8]
  | .illegalI8088x6A => [0x6A#8]
  | .illegalI8088x6B => [0x6B#8]
  | .illegalI8088x6C => [0x6C#8]
  | .illegalI8088x6D => [0x6D#8]
  | .illegalI8088x6E => [0x6E#8]
  | .illegalI8088x6F => [0x6F#8]
  | .illegalI8088xC0 => [0xC0#8]
  | .illegalI8088xC1 => [0xC1#8]
  | .illegalI8088xC8 => [0xC8#8]
  | .illegalI8088xC9 => [0xC9#8]
  | .illegal63 => [0x63#8]
  | .illegal64 => [0x64#8]
  | .illegal65 => [0x65#8]
  | .illegal66 => [0x66#8]
  | .illegal67 => [0x67#8]
  | .illegalD6 => [0xD6#8]
  | .illegalF1 => [0xF1#8]
  | .illegalC0r6 => [0xC0#8, ModRM.toByte ⟨0#2, 6#3, 0#3⟩]
  | .illegalC1r6 => [0xC1#8, ModRM.toByte ⟨0#2, 6#3, 0#3⟩]
  | .illegalD0r6 => [0xD0#8, ModRM.toByte ⟨0#2, 6#3, 0#3⟩]
  | .illegalD1r6 => [0xD1#8, ModRM.toByte ⟨0#2, 6#3, 0#3⟩]
  | .illegalD2r6 => [0xD2#8, ModRM.toByte ⟨0#2, 6#3, 0#3⟩]
  | .illegalD3r6 => [0xD3#8, ModRM.toByte ⟨0#2, 6#3, 0#3⟩]
  | .illegalF6r1 => [0xF6#8, ModRM.toByte ⟨0#2, 1#3, 0#3⟩]
  | .illegalF7r1 => [0xF7#8, ModRM.toByte ⟨0#2, 1#3, 0#3⟩]
  | .illegalFEr2 => [0xFE#8, ModRM.toByte ⟨0#2, 2#3, 0#3⟩]
  | .illegalFEr3 => [0xFE#8, ModRM.toByte ⟨0#2, 3#3, 0#3⟩]
  | .illegalFEr4 => [0xFE#8, ModRM.toByte ⟨0#2, 4#3, 0#3⟩]
  | .illegalFEr5 => [0xFE#8, ModRM.toByte ⟨0#2, 5#3, 0#3⟩]
  | .illegalFEr6 => [0xFE#8, ModRM.toByte ⟨0#2, 6#3, 0#3⟩]
  | .illegalFEr7 => [0xFE#8, ModRM.toByte ⟨0#2, 7#3, 0#3⟩]
  | .illegalFFr7 => [0xFF#8, ModRM.toByte ⟨0#2, 7#3, 0#3⟩]
  | .illegal8Fr1 => [0x8F#8, ModRM.toByte ⟨0#2, 1#3, 0#3⟩]
  | .illegal8Fr2 => [0x8F#8, ModRM.toByte ⟨0#2, 2#3, 0#3⟩]
  | .illegal8Fr3 => [0x8F#8, ModRM.toByte ⟨0#2, 3#3, 0#3⟩]
  | .illegal8Fr4 => [0x8F#8, ModRM.toByte ⟨0#2, 4#3, 0#3⟩]
  | .illegal8Fr5 => [0x8F#8, ModRM.toByte ⟨0#2, 5#3, 0#3⟩]
  | .illegal8Fr6 => [0x8F#8, ModRM.toByte ⟨0#2, 6#3, 0#3⟩]
  | .illegal8Fr7 => [0x8F#8, ModRM.toByte ⟨0#2, 7#3, 0#3⟩]
  | .illegalC6r1 => [0xC6#8, ModRM.toByte ⟨0#2, 1#3, 0#3⟩]
  | .illegalC6r2 => [0xC6#8, ModRM.toByte ⟨0#2, 2#3, 0#3⟩]
  | .illegalC6r3 => [0xC6#8, ModRM.toByte ⟨0#2, 3#3, 0#3⟩]
  | .illegalC6r4 => [0xC6#8, ModRM.toByte ⟨0#2, 4#3, 0#3⟩]
  | .illegalC6r5 => [0xC6#8, ModRM.toByte ⟨0#2, 5#3, 0#3⟩]
  | .illegalC6r6 => [0xC6#8, ModRM.toByte ⟨0#2, 6#3, 0#3⟩]
  | .illegalC6r7 => [0xC6#8, ModRM.toByte ⟨0#2, 7#3, 0#3⟩]
  | .illegalC7r1 => [0xC7#8, ModRM.toByte ⟨0#2, 1#3, 0#3⟩]
  | .illegalC7r2 => [0xC7#8, ModRM.toByte ⟨0#2, 2#3, 0#3⟩]
  | .illegalC7r3 => [0xC7#8, ModRM.toByte ⟨0#2, 3#3, 0#3⟩]
  | .illegalC7r4 => [0xC7#8, ModRM.toByte ⟨0#2, 4#3, 0#3⟩]
  | .illegalC7r5 => [0xC7#8, ModRM.toByte ⟨0#2, 5#3, 0#3⟩]
  | .illegalC7r6 => [0xC7#8, ModRM.toByte ⟨0#2, 6#3, 0#3⟩]
  | .illegalC7r7 => [0xC7#8, ModRM.toByte ⟨0#2, 7#3, 0#3⟩]
  | .illegal8Cr4 => [0x8C#8, ModRM.toByte ⟨0#2, 4#3, 0#3⟩]
  | .illegal8Cr5 => [0x8C#8, ModRM.toByte ⟨0#2, 5#3, 0#3⟩]
  | .illegal8Cr6 => [0x8C#8, ModRM.toByte ⟨0#2, 6#3, 0#3⟩]
  | .illegal8Cr7 => [0x8C#8, ModRM.toByte ⟨0#2, 7#3, 0#3⟩]
  | .illegal8Er1 => [0x8E#8, ModRM.toByte ⟨0#2, 1#3, 0#3⟩]
  | .illegal8Er4 => [0x8E#8, ModRM.toByte ⟨0#2, 4#3, 0#3⟩]
  | .illegal8Er5 => [0x8E#8, ModRM.toByte ⟨0#2, 5#3, 0#3⟩]
  | .illegal8Er6 => [0x8E#8, ModRM.toByte ⟨0#2, 6#3, 0#3⟩]
  | .illegal8Er7 => [0x8E#8, ModRM.toByte ⟨0#2, 7#3, 0#3⟩]
  | .illegal8Dmod3 => [0x8D#8, ModRM.toByte ⟨3#2, 0#3, 0#3⟩]
  | .illegalC4mod3 => [0xC4#8, ModRM.toByte ⟨3#2, 0#3, 0#3⟩]
  | .illegalC5mod3 => [0xC5#8, ModRM.toByte ⟨3#2, 0#3, 0#3⟩]
  | .illegal62mod3 => [0x62#8, ModRM.toByte ⟨3#2, 0#3, 0#3⟩]
  | .illegalFFr3mod3 => [0xFF#8, ModRM.toByte ⟨3#2, 3#3, 0#3⟩]
  | .illegalFFr5mod3 => [0xFF#8, ModRM.toByte ⟨3#2, 5#3, 0#3⟩]

/-! ### The opcode table's words -/

/-- The bytes of a word of spec/opcode_table.json: the table writes a row as one number with the opcode in its highest
byte (INDEX.md: "the opcode byte, then the ModRM byte"), so a row of two bytes has its opcode in bits 15..8 and its ModRM
byte in bits 7..0. The opcode comes first in memory; `extra` zero bytes follow (notes/assumptions/5.md). -/
def tableBytes (nbits w extra : Nat) : List Byte :=
  ((List.range (nbits / 8)).map fun k => BitVec.ofNat 8 (w >>> (nbits - 8 * (k + 1)))) ++ List.replicate extra 0#8

/-- The instruction the decoder reads from a word of the opcode table, operand bytes above it zero, in the mode
`State.reset` has (`V20`, notes/assumptions/6.md). -/
def decodeTableWord (nbits w : Nat) : Option Instr :=
  match decode .v20 (tableBytes nbits w 6) with
  | .ok (i, _) => some i
  | .error _ => none

end Sys2Proof
end

