-- ==== Sys2Proof/Machine/State.lean ====
section
/-! DEFINITION. The state of the machine: the register file, FLAGS and the hidden state of 10_state.md; memory and the
dispatch tables of 20_memory.md; the platform around the core (peripherals, interrupt controller, software interrupt
handlers) as far as the rules give it a part in a step; the model's own fields (notes/assumptions/7.md, 8.md).
It is plain data. Then the ways a step can stop, and the state after reset. -/

namespace Sys2Proof.Machine

/-! ### The register file -/

/-- The eight general registers (10_state.md R30, R31). -/
structure Gpr where
  ax : Word
  cx : Word
  dx : Word
  bx : Word
  sp : Word
  bp : Word
  si : Word
  di : Word
  deriving DecidableEq, Repr

/-- The four segment registers (10_state.md R30, R33). -/
structure SegRegs where
  es : Word
  cs : Word
  ss : Word
  ds : Word
  deriving DecidableEq, Repr

/-! ### The decode state (10_state.md R46) -/

/-- The REP mode the prefix loop has recorded (30_encoding.md R111). -/
inductive Rep where
  | off
  | repne
  | repe
  deriving DecidableEq, Repr

/-- The decode state of the instruction being executed, reset at the start of every decode (10_state.md R46): the IP at
which prefix parsing began (R36), the last segment prefix, the last REP-class prefix. The rest of R46's decode state
(`opcode`, `modrm`, `w`, `d`) is in the decoded `Instr`. -/
structure DecodeState where
  start : Word
  segOverride : Option Sreg
  rep : Rep
  deriving DecidableEq, Repr

/-! ### Memory and the dispatch tables -/

/-- The bytes of `Ram` and `Rom` devices, by linear address, in canonical form: addresses rising strictly and below
2^20, no entry equal to `Config.launchByte` (20_memory.md R74, R82). -/
abbrev Memory := List Host.Cell

/-- One installation (20_memory.md R77): every address from `lo` to `hi`, both included, goes to the device in `slot`. -/
structure Range where
  lo : Nat
  hi : Nat
  slot : Nat
  deriving DecidableEq, Repr

/-- A dispatch table (20_memory.md R76): the installations, latest first. An address in none of them has entry 0. -/
abbrev Table := List Range

/-- The three kinds of a memory device (20_memory.md R82). `opaqueDev` is `Opaque`. -/
inductive MemKind where
  | ram
  | rom
  | opaqueDev
  deriving DecidableEq, Repr

/-! ### The platform around the core -/

/-- What a peripheral can do through the façade: no agent but the core, the host and a software interrupt handler changes the
registers (20_memory.md R84, R99; 60_exceptions.md R508, R541, R545). -/
inductive BusOp where
  | read (a : Addr)
  | write (a : Addr) (v : Byte)
  | portIn (p : Word)
  | portOut (p : Word) (v : Byte)
  | raiseIrq (line : Nat)
  deriving DecidableEq, Repr

/-- One call of a peripheral's `Step(cycles)` (60_exceptions.md R541): what it does, then the error it returns, if any. -/
structure Tick where
  ops : List BusOp
  error : Option Nat
  deriving DecidableEq, Repr

/-- An installed peripheral (60_exceptions.md R540, R541): the kind of its memory capability (20_memory.md R82), what its
coming ticks do, oldest first (none left: a tick does nothing and returns no error), what its `Reset()` does, and the
error its `Close()` returns, if any. The spec leaves what a `Reset()` does to the platform; that every `Reset()` of a
peripheral does the same is the model's: DESIGN CHOICE, notes/assumptions/28.md. -/
structure Peripheral where
  kind : MemKind
  ticks : List Tick
  resetOps : List BusOp
  closeError : Option Nat
  deriving DecidableEq, Repr

/-- What a software interrupt handler can do: it is host code with access to every register, FLAGS, memory and IO
(60_exceptions.md R511, R545). -/
inductive HandlerOp where
  | setReg (r : Reg16) (v : Word)
  | setSeg (r : Sreg) (v : Word)
  | setIp (v : Word)
  | storeFlags (v : Word)
  | bus (op : BusOp)
  deriving DecidableEq, Repr

/-- What `HandleInterrupt` returns (60_exceptions.md R510, R511). -/
inductive HandlerResult where
  | ok
  | notHandled
  | error (e : Nat)
  deriving DecidableEq, Repr

/-- One call of a software interrupt handler: its effects, then its result. -/
structure HandlerReply where
  ops : List HandlerOp
  result : HandlerResult
  deriving DecidableEq, Repr

/-- A handler installed for a vector (`P_SOFTINT`, 60_exceptions.md R511, R542): its coming calls, oldest first, and what
every call after those does. -/
structure SoftHandler where
  vector : Byte
  replies : List HandlerReply
  after : HandlerReply
  deriving DecidableEq, Repr

/-- An access of an `Opaque` device, which that device sees (20_memory.md R82 (c), R83), with the value read or written,
or an interrupt request (60_exceptions.md R508). -/
inductive DevEvent where
  | memRead (slot : Nat) (a : Addr) (v : Byte)
  | memWrite (slot : Nat) (a : Addr) (v : Byte)
  | portRead (slot : Nat) (p : Word) (v : Byte)
  | portWrite (slot : Nat) (p : Word) (v : Byte)
  | irq (line : Nat)
  deriving DecidableEq, Repr

/-- How the last call of `step` ended when it answered a next state: with the outcome `Ok` or `Halt` (60_exceptions.md R500),
or inside a step whose prefix loop, which has no count limit, is still reading prefixes (30_encoding.md R111): the next call
goes on with that loop (notes/assumptions/9.md). -/
inductive Signal where
  | ok
  | halt
  | decoding
  deriving DecidableEq, Repr

/-! ### The state -/

/-- The state of the machine; INVENTORY.md lists every field with the rule that names it. -/
structure State where
  /-- General registers (10_state.md R30). -/
  gpr : Gpr
  /-- Segment registers (10_state.md R30). -/
  seg : SegRegs
  /-- Instruction pointer (10_state.md R35). -/
  ip : Word
  /-- The flags word (10_state.md R37, R38). -/
  flags : Word
  /-- The trap latch (10_state.md R43). -/
  trap : Bool
  /-- The debug-break flag (10_state.md R44). -/
  debugBreak : Bool
  /-- The executed-instruction counter (10_state.md R45). -/
  icount : BitVec 64
  /-- The per-step cycle counter (60_exceptions.md R532 (a)); between steps, the count of the last `Ok(cycles)`. -/
  cycles : Nat
  /-- How the last call of `step` ended (60_exceptions.md R500; 30_encoding.md R111). The model's own field. -/
  signal : Signal
  /-- The decode state (10_state.md R46). -/
  dec : DecodeState
  /-- The contents of `Ram` and `Rom` (20_memory.md R82). -/
  mem : Memory
  /-- The memory dispatch table (20_memory.md R76). -/
  memTable : Table
  /-- The IO dispatch table (20_memory.md R76). -/
  ioTable : Table
  /-- The peripherals in registration order (20_memory.md R77, 60_exceptions.md R540). That the `k`-th of them has device
  index (slot) `k` is the model's: DESIGN CHOICE, notes/assumptions/29.md. -/
  peripherals : List Peripheral
  /-- The software interrupt handlers, `P_SOFTINT` (60_exceptions.md R511). -/
  softInt : List SoftHandler
  /-- The interrupt controller, `P_PIC`: whether one is attached, and its coming answers to `PollPending`, oldest first
  (60_exceptions.md R507). -/
  pic : Option (List (Option Byte))
  /-- `P_CPU_MODE` (10_state.md R49). -/
  cpuMode : CpuMode
  /-- `P_WORD_WRAP` (20_memory.md R86). -/
  wordWrap : WordWrap
  /-- What the `Opaque` devices and the controller have seen, latest first (20_memory.md R82). The model's own field. -/
  events : List DevEvent
  /-- The number of the next free value. The model's own field. -/
  draws : Nat
  deriving DecidableEq, Repr

/-! ### How a step can stop -/

/-- The fault outcomes of a step, each with the state it leaves. -/
inductive Fault where
  /-- `DebugBreak`: an illegal encoding in `I8088` mode (60_exceptions.md R524). Raised by the meanings of the illegal
  rows and of the V20 rows executed in `I8088` mode. Safe: "A model reads `DebugBreak` as a fault outcome". -/
  | debugBreak (s : State)
  /-- `Error(e)` of a peripheral's `Step` (60_exceptions.md R526). Raised by the tick phase of a step. Safe. -/
  | peripheralError (e : Nat) (s : State)
  /-- `Error(e)` of a software interrupt handler, after TF and IF are cleared (60_exceptions.md R510, R511). Raised by
  interrupt delivery. Safe. -/
  | handlerError (e : Nat) (s : State)
  deriving DecidableEq, Repr

/-- The refusals of a step: cases the spec gives no meaning. -/
inductive Refusal where
  /-- An instruction without a meaning in this model, by its mnemonic in spec/opcode_table.json. Safe. No arm of
  `exec` raises it. -/
  | notModelled (mnemonic : String)
  /-- `Unmodelled("REP primitive byte changed")` (43_string.md R372), with the state it leaves. Raised by the REP loop.
  Safe. -/
  | repByteChanged (s : State)
  /-- A platform configuration with an installation error (20_memory.md R78). Raised by `boot`. Safe. -/
  | badPlatform
  /-- The bytes of an instruction do not decode. Six bytes always do, so no step raises it. Safe. -/
  | undecodable (e : DecodeErr)
  deriving DecidableEq, Repr

/-! ### Reset -/

/-- The machine right after `Install(); Reset()` (10_state.md R51, 70_reset_and_hazards.md R550, R554) on the model's
platform: one `Ram` device at every memory address and nothing at any port (notes/assumptions/10.md), `V20` mode
(notes/assumptions/6.md), an interrupt controller attached with nothing pending and no software interrupt handlers
(notes/assumptions/11.md). `icount` is 0 (notes/assumptions/12.md); the model's own fields have their starting values
(notes/assumptions/7.md, 8.md). -/
def State.reset : State where
  gpr := { ax := 0#16, cx := 0#16, dx := 0#16, bx := 0#16, sp := 0#16, bp := 0#16, si := 0#16, di := 0#16 }
  seg := { es := 0#16, cs := 0xFFFF#16, ss := 0#16, ds := 0#16 }
  ip := 0#16
  flags := 0x0002#16
  trap := false
  debugBreak := false
  icount := 0#64
  cycles := 0
  signal := .ok
  dec := { start := 0#16, segOverride := none, rep := .off }
  mem := []
  memTable := [{ lo := 0x00000, hi := 0xFFFFF, slot := 1 }]
  ioTable := []
  peripherals := [{ kind := .ram, ticks := [], resetOps := [], closeError := none }]
  softInt := []
  pic := some []
  cpuMode := .v20
  wordWrap := .segment
  events := []
  draws := 0

end Sys2Proof.Machine
end

