-- ==== Sys2Proof/Machine/Bits.lean ====
section
/-! DEFINITION. The bit-field and address helpers of the rules: sign extension (00_scope.md R7), the 8-bit halves of a
register (10_state.md R32), the linear address (20_memory.md R70). -/

namespace Sys2Proof.Machine

/-- `sext_16(b)` (00_scope.md R7). -/
def sext16 (b : Byte) : Word := b.signExtend 16

/-- `w` with its low byte replaced (10_state.md R32). -/
def setLo (w : Word) (b : Byte) : Word := hiByte w ++ b

/-- `w` with its high byte replaced (10_state.md R32). -/
def setHi (w : Word) (b : Byte) : Word := b ++ loByte w

/-- `Lin(seg, off) = (seg * 16 + off) mod 2^20` (20_memory.md R70). -/
def lin (seg off : Word) : Addr := seg.setWidth 20 * 16#20 + off.setWidth 20

/-- `MakeAddress(seg, off) = seg * 65536 + off` (20_memory.md R71), a value type of the host. -/
def makeAddress (seg off : Word) : BitVec 32 := seg ++ off

/-- `AddOffset(seg:off, n) = seg:((off + n) mod 2^16)`: the segment is untouched (20_memory.md R72). -/
def addOffset (p : Word × Word) (n : Word) : Word × Word := (p.1, p.2 + n)

end Sys2Proof.Machine
end

