-- ==== Sys2Proof/Machine/Flags.lean ====
section
/-! DEFINITION. The flags word (10_state.md R37 to R39) and every flag computation of the rules: `SZP`, `AddFlags`,
`SubFlags`, INC and DEC (41_arithmetic.md R260 to R264), the logical operations (42_logic_shift.md R320) and the shifts
and rotates (R331 to R339). The width `n` of an operand is 8 or 16. -/

namespace Sys2Proof.Machine

/-- The nine flags (10_state.md R37). -/
inductive Flag where
  | carry | parity | aux | zero | sign | trap | interrupt | direction | overflow
  deriving DecidableEq, Repr

/-- The bit positions of 10_state.md R37. -/
def Flag.bit : Flag → Nat
  | .carry => 0 | .parity => 2 | .aux => 4 | .zero => 6 | .sign => 7
  | .trap => 8 | .interrupt => 9 | .direction => 10 | .overflow => 11

/-- `Get(f)` of a flags word (10_state.md R39). -/
def flagOf (f : Flag) (w : Word) : Bool := w.getLsbD f.bit

/-- `SetBool(f, b)` of a flags word: no other bit changes (10_state.md R39). -/
def putFlag (f : Flag) (b : Bool) (w : Word) : Word :=
  bif b then w ||| BitVec.twoPow 16 f.bit else w &&& ~~~(BitVec.twoPow 16 f.bit)

/-- `Store(v)`: bit 1 forced to 1, the rest as given (10_state.md R38). -/
def storeWord (v : Word) : Word := v ||| 0x0002#16

/-- `Parity(b)`: 1 when the number of 1 bits is even (41_arithmetic.md R261). -/
def parity (b : Byte) : Bool :=
  !(b.getLsbD 0 ^^ b.getLsbD 1 ^^ b.getLsbD 2 ^^ b.getLsbD 3 ^^ b.getLsbD 4 ^^ b.getLsbD 5 ^^ b.getLsbD 6 ^^ b.getLsbD 7)

/-- `SZP(w, v)` (41_arithmetic.md R260); parity looks at the low 8 bits only. -/
def szp {n : Nat} (v : BitVec n) (fl : Word) : Word :=
  putFlag .sign v.msb (putFlag .zero (v == 0#n) (putFlag .parity (parity (v.setWidth 8)) fl))

/-- `carryMask_w` (41_arithmetic.md R262). -/
def carryMask (n : Nat) : BitVec 32 := if n = 8 then 0xFF00#32 else 0xFFFF0000#32

/-- `ovMask_w` (41_arithmetic.md R262). -/
def ovMask (n : Nat) : BitVec 32 := if n = 8 then 0x80#32 else 0x8000#32

/-- `AddFlags(w, a, b, c)` on a flags word (41_arithmetic.md R262): the result and the new flags word. -/
def addFlags {n : Nat} (a b : BitVec n) (c : Bool) (fl : Word) : BitVec n × Word :=
  let a' := a.setWidth 32
  let b' := b.setWidth 32
  let r := a' + b' + (BitVec.ofBool c).setWidth 32
  let res := r.setWidth n
  (res,
    szp res
      (putFlag .aux ((a' ^^^ b' ^^^ r) &&& 0x10#32 != 0#32)
        (putFlag .overflow ((r ^^^ a') &&& (r ^^^ b') &&& ovMask n != 0#32)
          (putFlag .carry (r &&& carryMask n != 0#32) fl))))

/-- `SubFlags(w, a, b, c)` on a flags word (41_arithmetic.md R263, 90_conflicts.md C9). -/
def subFlags {n : Nat} (a b : BitVec n) (c : Bool) (fl : Word) : BitVec n × Word :=
  let a' := a.setWidth 32
  let b' := b.setWidth 32
  let r := a' - b' - (BitVec.ofBool c).setWidth 32
  let res := r.setWidth n
  (res,
    szp res
      (putFlag .aux ((a' ^^^ b' ^^^ r) &&& 0x10#32 != 0#32)
        (putFlag .overflow ((r ^^^ a') &&& (a' ^^^ b') &&& ovMask n != 0#32)
          (putFlag .carry (r &&& carryMask n != 0#32) fl))))

/-- `IncFlags(w, a)`: CF is kept (41_arithmetic.md R264). -/
def incFlags {n : Nat} (a : BitVec n) (fl : Word) : BitVec n × Word :=
  let r := addFlags a 1#n false fl
  (r.1, putFlag .carry (flagOf .carry fl) r.2)

/-- `DecFlags(w, a)`: CF is kept (41_arithmetic.md R264). -/
def decFlags {n : Nat} (a : BitVec n) (fl : Word) : BitVec n × Word :=
  let r := subFlags a 1#n false fl
  (r.1, putFlag .carry (flagOf .carry fl) r.2)

/-- `LogicFlags(w, res)`: AF is not written (42_logic_shift.md R320). -/
def logicFlags {n : Nat} (res : BitVec n) (fl : Word) : Word :=
  szp res (putFlag .carry false (putFlag .overflow false fl))

/-- The eight operations of an ALU row, in the order of `k` (30_encoding.md R116). -/
inductive AluOp where
  | add | or | adc | sbb | and | sub | xor | cmp
  deriving DecidableEq, Repr

/-- `OP(w, a, b)` of the two-operand ALU instructions (41_arithmetic.md R265 to R270, 42_logic_shift.md R321 to R323):
the result and the new flags word. -/
def aluFlags {n : Nat} (op : AluOp) (a b : BitVec n) (fl : Word) : BitVec n × Word :=
  match op with
  | .add => addFlags a b false fl
  | .or => (a ||| b, logicFlags (a ||| b) fl)
  | .adc => addFlags a b (flagOf .carry fl) fl
  | .sbb => subFlags a b (flagOf .carry fl) fl
  | .and => (a &&& b, logicFlags (a &&& b) fl)
  | .sub => subFlags a b false fl
  | .xor => (a ^^^ b, logicFlags (a ^^^ b) fl)
  | .cmp => subFlags a b false fl

/-! ### Shifts and rotates -/

/-- The left group of 42_logic_shift.md R339: ROL, RCL, SHL. -/
def isLeftShift : ShiftOp → Bool
  | .rol => true | .rcl => true | .shl => true
  | .ror => false | .rcr => false | .shr => false | .sar => false

/-- SHL, SHR and SAR set SF, ZF and PF and leave AF undefined; the rotates keep all four (42_logic_shift.md R332 to
R338). -/
def isPlainShift : ShiftOp → Bool
  | .shl => true | .shr => true | .sar => true
  | .rol => false | .ror => false | .rcl => false | .rcr => false

/-- One bit position of a shift or rotate, from value and CF to value and CF (42_logic_shift.md R332 to R338). -/
def shiftOnce {n : Nat} (op : ShiftOp) (v : BitVec n) (cf : Bool) : BitVec n × Bool :=
  match op with
  | .rol => ((v <<< 1) ||| (BitVec.ofBool v.msb).setWidth n, v.msb)
  | .ror => ((v >>> 1) ||| ((BitVec.ofBool (v.getLsbD 0)).setWidth n <<< (n - 1)), v.getLsbD 0)
  | .rcl => ((v <<< 1) ||| (BitVec.ofBool cf).setWidth n, v.msb)
  | .rcr => ((v >>> 1) ||| ((BitVec.ofBool cf).setWidth n <<< (n - 1)), v.getLsbD 0)
  | .shl => (v <<< 1, v.msb)
  | .shr => (v >>> 1, v.getLsbD 0)
  | .sar => ((v >>> 1) ||| ((BitVec.ofBool v.msb).setWidth n <<< (n - 1)), v.getLsbD 0)

/-- `repeat cnt times` (42_logic_shift.md R330). -/
def shiftTimes {n : Nat} (op : ShiftOp) : Nat → BitVec n → Bool → BitVec n × Bool
  | 0, v, cf => (v, cf)
  | k + 1, v, cf => shiftTimes op k (shiftOnce op v cf).1 (shiftOnce op v cf).2

/-- OF after a shift or rotate with `cnt >= 1` of `v0`, giving `v` and the new carry `cf` (42_logic_shift.md R339). -/
def shiftOverflow {n : Nat} (op : ShiftOp) (v0 : BitVec n) (cnt : Nat) (oldCf : Bool) (v : BitVec n) (cf : Bool) : Bool :=
  if cnt = 1 then (if isLeftShift op then cf ^^ v.msb else v.getLsbD (n - 1) ^^ v.getLsbD (n - 2))
  else Config.shiftOf op n (v0.setWidth 16) cnt oldCf

/-- A shift or rotate by `cnt >= 1` on a flags word: the result and the flags it defines; AF of the shifts is left to
the caller, for it is undefined (42_logic_shift.md R332 to R339). -/
def shiftFlags {n : Nat} (op : ShiftOp) (v0 : BitVec n) (cnt : Nat) (fl : Word) : BitVec n × Word :=
  let oldCf := flagOf .carry fl
  let r := shiftTimes op cnt v0 oldCf
  let fl' := putFlag .overflow (shiftOverflow op v0 cnt oldCf r.1 r.2) (putFlag .carry r.2 fl)
  (r.1, if isPlainShift op then szp r.1 fl' else fl')

/-- The effective count: the whole raw count in `I8088` mode, its low five bits in `V20` mode (42_logic_shift.md R330,
92 D16). -/
def effectiveCount (mode : CpuMode) (raw : Byte) : Nat :=
  match mode with
  | .i8088 => raw.toNat
  | .v20 => (raw &&& 0x1F#8).toNat

/-! ### Branch conditions -/

/-- The sixteen conditions of 44_control_transfer.md R404, in the order of `cc`. -/
inductive Cond where
  | o | no | b | ae | e | ne | be | a | s | ns | p | np | l | ge | le | g
  deriving DecidableEq, Repr

/-- Whether a condition holds of a flags word (44_control_transfer.md R404). -/
def Cond.holds (c : Cond) (fl : Word) : Bool :=
  match c with
  | .o => flagOf .overflow fl
  | .no => !flagOf .overflow fl
  | .b => flagOf .carry fl
  | .ae => !flagOf .carry fl
  | .e => flagOf .zero fl
  | .ne => !flagOf .zero fl
  | .be => flagOf .carry fl || flagOf .zero fl
  | .a => !flagOf .carry fl && !flagOf .zero fl
  | .s => flagOf .sign fl
  | .ns => !flagOf .sign fl
  | .p => flagOf .parity fl
  | .np => !flagOf .parity fl
  | .l => flagOf .sign fl != flagOf .overflow fl
  | .ge => flagOf .sign fl == flagOf .overflow fl
  | .le => flagOf .zero fl || flagOf .sign fl != flagOf .overflow fl
  | .g => !flagOf .zero fl && flagOf .sign fl == flagOf .overflow fl

end Sys2Proof.Machine
end

