-- ==== Sys2Proof/Machine/Memory.lean ====
section
/-! DEFINITION. The contents of `Ram` and `Rom` as a list of cells in canonical form (20_memory.md R82, R98): a read gives
the last byte written at the address, or the launch byte. -/

namespace Sys2Proof.Machine

/-- The byte at linear address `a`. -/
def Memory.read : Memory → Nat → Byte
  | [], _ => Config.launchByte
  | (b, w) :: m, a => if a = b then w else Memory.read m a

/-- The cell list with `v` at `a`; writing the launch byte removes the entry. -/
def Memory.write : Memory → Nat → Byte → Memory
  | [], a, v => if v = Config.launchByte then [] else [(a, v)]
  | (b, w) :: m, a, v =>
    if a < b then (if v = Config.launchByte then (b, w) :: m else (a, v) :: (b, w) :: m)
    else if a = b then (if v = Config.launchByte then m else (a, v) :: m)
    else (b, w) :: Memory.write m a v

/-- Every address of the list is at least `lo` and below 2^20, addresses rise strictly, and no entry equals the launch
byte. -/
def Memory.wfFrom : Nat → Memory → Bool
  | _, [] => true
  | lo, (a, v) :: m => decide (lo ≤ a) && decide (a < 2 ^ 20) && decide (v ≠ Config.launchByte) && Memory.wfFrom (a + 1) m

/-- The canonical form: equal contents are equal lists. -/
def Memory.wf (m : Memory) : Bool := Memory.wfFrom 0 m

end Sys2Proof.Machine
end

