-- ==== Sys2Proof/Machine/Ops.lean ====
section
/-! DEFINITION. The named operations every meaning is written over: registers and flags, the bus dispatcher
(20_memory.md R76 to R91), fetch (30_encoding.md R110), the stack (20_memory.md R94, R95), free flag values, interrupt
delivery and the faults (60_exceptions.md R510 to R524), the peripherals' and the host's part (R526, R540 to R545) and
the host's reset (70_reset_and_hazards.md R550). -/

namespace Sys2Proof.Machine

/-- The outcome of a step in this machine. -/
abbrev Res := Host.Outcome State Fault Refusal

/-- Go on from a next state; a fault or a refusal stops. -/
def andThen (r : Res) (k : State → Res) : Res :=
  match r with
  | .next s => k s
  | .fault f => .fault f
  | .refused f => .refused f

/-! ### Registers -/

/-- `r16[i]` (10_state.md R31). -/
def reg16 (r : Reg16) (s : State) : Word :=
  match r with
  | .ax => s.gpr.ax | .cx => s.gpr.cx | .dx => s.gpr.dx | .bx => s.gpr.bx
  | .sp => s.gpr.sp | .bp => s.gpr.bp | .si => s.gpr.si | .di => s.gpr.di

/-- `r16[i] <- v` on the register file. -/
def Gpr.set (g : Gpr) (r : Reg16) (v : Word) : Gpr :=
  match r with
  | .ax => { g with ax := v } | .cx => { g with cx := v } | .dx => { g with dx := v } | .bx => { g with bx := v }
  | .sp => { g with sp := v } | .bp => { g with bp := v } | .si => { g with si := v } | .di => { g with di := v }

/-- `r16[i] <- v`. -/
def setReg16 (r : Reg16) (v : Word) (s : State) : State := { s with gpr := s.gpr.set r v }

/-- The 16-bit register that holds an 8-bit register (10_state.md R32). -/
def wholeOf : Reg8 → Reg16
  | .al => .ax | .ah => .ax | .cl => .cx | .ch => .cx | .dl => .dx | .dh => .dx | .bl => .bx | .bh => .bx

/-- AH, CH, DH and BH are the high halves (10_state.md R32). -/
def isHighHalf : Reg8 → Bool
  | .al => false | .cl => false | .dl => false | .bl => false
  | .ah => true | .ch => true | .dh => true | .bh => true

/-- `r8[i]` (10_state.md R32). -/
def reg8 (r : Reg8) (s : State) : Byte :=
  if isHighHalf r then hiByte (reg16 (wholeOf r) s) else loByte (reg16 (wholeOf r) s)

/-- `r8[i] <- v`: the other half of the register is unchanged (10_state.md R32). -/
def setReg8 (r : Reg8) (v : Byte) (s : State) : State :=
  let w := reg16 (wholeOf r) s
  setReg16 (wholeOf r) (if isHighHalf r then setHi w v else setLo w v) s

/-- `sr[i]` (10_state.md R33). -/
def sreg (r : Sreg) (s : State) : Word :=
  match r with
  | .es => s.seg.es | .cs => s.seg.cs | .ss => s.seg.ss | .ds => s.seg.ds

/-- `sr[i] <- v` on the segment registers. -/
def SegRegs.set (g : SegRegs) (r : Sreg) (v : Word) : SegRegs :=
  match r with
  | .es => { g with es := v } | .cs => { g with cs := v } | .ss => { g with ss := v } | .ds => { g with ds := v }

/-- `sr[i] <- v`. -/
def setSreg (r : Sreg) (v : Word) (s : State) : State := { s with seg := s.seg.set r v }

/-- `IP <- v`. -/
def setIp (v : Word) (s : State) : State := { s with ip := v }

/-- A far transfer writes CS and IP together (44_control_transfer.md R400). -/
def farTo (cs ip : Word) (s : State) : State := { setSreg .cs cs s with ip := ip }

/-! ### Flags -/

/-- `f` (10_state.md R39). -/
def flag (f : Flag) (s : State) : Bool := flagOf f s.flags

/-- `f <- b` (10_state.md R39). -/
def setFlag (f : Flag) (b : Bool) (s : State) : State := { s with flags := putFlag f b s.flags }

/-- A flags word computed by a helper replaces FLAGS. -/
def setFlags (w : Word) (s : State) : State := { s with flags := w }

/-- `Store(v)` (10_state.md R38). -/
def storeFlags (v : Word) (s : State) : State := { s with flags := storeWord v }

/-- `TF <- 0; IF <- 0` (60_exceptions.md R510). -/
def clearTfIf (s : State) : State := setFlag .interrupt false (setFlag .trap false s)

/-- `f <- undef()` for each flag of the list: a fresh free value for each (00_scope.md R10, 92 D6). -/
def undefFlags : List Flag → State → State
  | [], s => s
  | f :: fs, s => undefFlags fs { s with flags := putFlag f (Config.undef s.draws) s.flags, draws := s.draws + 1 }

/-! ### The dispatch tables and the bus -/

/-- The entry of a dispatch table: the slot of the latest installation that covers the address, 0 if none does
(20_memory.md R76, R77). -/
def slotAt (t : Table) (a : Nat) : Nat :=
  match t.find? (fun r => decide (r.lo ≤ a) && decide (a ≤ r.hi)) with
  | some r => r.slot
  | none => 0

/-- The kind of the device at a memory address; none for the dummy device (20_memory.md R80, R82). -/
def kindAt (s : State) (a : Addr) : Option MemKind :=
  match slotAt s.memTable a.toNat with
  | 0 => none
  | k + 1 => (s.peripherals[k]?).map (·.kind)

/-- An `Opaque` device answers a read: a free value, and the device sees the access (20_memory.md R82 (c)). -/
def drawAnswer (slot addr : Nat) (mk : Byte → DevEvent) (s : State) : Byte × State :=
  let v := Config.devAnswer slot addr s.draws
  (v, { s with draws := s.draws + 1, events := mk v :: s.events })

/-- `BusRead8(a)` (20_memory.md R80, R82). -/
def busRead8 (a : Addr) (s : State) : Byte × State :=
  match kindAt s a with
  | none => (Config.floatingBus, s)
  | some .ram => (s.mem.read a.toNat, s)
  | some .rom => (s.mem.read a.toNat, s)
  | some .opaqueDev =>
    drawAnswer (slotAt s.memTable a.toNat) a.toNat (.memRead (slotAt s.memTable a.toNat) a) s

/-- `BusWrite8(a, v)` (20_memory.md R81, R82). -/
def busWrite8 (a : Addr) (v : Byte) (s : State) : State :=
  match kindAt s a with
  | none => s
  | some .ram => { s with mem := s.mem.write a.toNat v }
  | some .rom => s
  | some .opaqueDev => { s with events := .memWrite (slotAt s.memTable a.toNat) a v :: s.events }

/-- `IoIn8(p)` (20_memory.md R83); IO devices are always `Opaque` (R82). -/
def ioIn8 (p : Word) (s : State) : Byte × State :=
  match slotAt s.ioTable p.toNat with
  | 0 => (Config.floatingBus, s)
  | k + 1 => drawAnswer (k + 1) p.toNat (.portRead (k + 1) p) s

/-- `IoOut8(p, v)` (20_memory.md R83). -/
def ioOut8 (p : Word) (v : Byte) (s : State) : State :=
  match slotAt s.ioTable p.toNat with
  | 0 => s
  | k + 1 => { s with events := .portWrite (k + 1) p v :: s.events }

/-- The linear address of the high byte of a word at `seg:off` (20_memory.md R86). -/
def hiAddr (wrap : WordWrap) (seg off : Word) : Addr :=
  match wrap with
  | .segment => lin seg (off + 1#16)
  | .linear => lin seg off + 1#20

/-- `MemRead(seg:off, 1)` (20_memory.md R86). -/
def memRead8 (seg off : Word) (s : State) : Byte × State := busRead8 (lin seg off) s

/-- `MemRead(seg:off, 2)`: the low byte first (20_memory.md R86, R88). -/
def memRead16 (seg off : Word) (s : State) : Word × State :=
  let lo := busRead8 (lin seg off) s
  let hi := busRead8 (hiAddr s.wordWrap seg off) lo.2
  (wordOfBytes lo.1 hi.1, hi.2)

/-- `MemWrite(seg:off, 1, v)` (20_memory.md R87). -/
def memWrite8 (seg off : Word) (v : Byte) (s : State) : State := busWrite8 (lin seg off) v s

/-- `MemWrite(seg:off, 2, v)`: the low byte first (20_memory.md R87). -/
def memWrite16 (seg off : Word) (v : Word) (s : State) : State :=
  busWrite8 (hiAddr s.wordWrap seg off) (hiByte v) (busWrite8 (lin seg off) (loByte v) s)

/-- `IoIn(p, 2)`: the low port first (20_memory.md R90). -/
def ioIn16 (p : Word) (s : State) : Word × State :=
  let lo := ioIn8 p s
  let hi := ioIn8 (p + 1#16) lo.2
  (wordOfBytes lo.1 hi.1, hi.2)

/-- `IoOut(p, 2, v)`: the low port first (20_memory.md R91). -/
def ioOut16 (p : Word) (v : Word) (s : State) : State := ioOut8 (p + 1#16) (hiByte v) (ioOut8 p (loByte v) s)

/-! ### Fetch and the stack -/

/-- `Fetch8()` (30_encoding.md R110). -/
def fetch8 (s : State) : Byte × State :=
  let r := busRead8 (lin s.seg.cs s.ip) s
  (r.1, { r.2 with ip := s.ip + 1#16 })

/-- `k` bytes fetched one after another (30_encoding.md R110). -/
def fetchBytes : Nat → State → List Byte × State
  | 0, s => ([], s)
  | k + 1, s =>
    let r := fetch8 s
    let rest := fetchBytes k r.2
    (r.1 :: rest.1, rest.2)

/-- `SP <- (SP - 2) mod 2^16` (20_memory.md R94). -/
def decSp (s : State) : State := setReg16 .sp (s.gpr.sp - 2#16) s

/-- `Push16(v)` (20_memory.md R94). -/
def push16 (v : Word) (s : State) : State := memWrite16 s.seg.ss (s.gpr.sp - 2#16) v (decSp s)

/-- `Pop16()` (20_memory.md R95). -/
def pop16 (s : State) : Word × State :=
  let r := memRead16 s.seg.ss s.gpr.sp s
  (r.1, setReg16 .sp (s.gpr.sp + 2#16) r.2)

/-! ### The façade: what peripherals and handlers do -/

/-- One façade access (20_memory.md R84), or an interrupt request (60_exceptions.md R508). -/
def runBusOp (op : BusOp) (s : State) : State :=
  match op with
  | .read a => (busRead8 a s).2
  | .write a v => busWrite8 a v s
  | .portIn p => (ioIn8 p s).2
  | .portOut p v => ioOut8 p v s
  | .raiseIrq line => { s with events := .irq line :: s.events }

/-- Façade accesses in order. -/
def runBusOps : List BusOp → State → State
  | [], s => s
  | op :: ops, s => runBusOps ops (runBusOp op s)

/-- One effect of a software interrupt handler (60_exceptions.md R511). -/
def runHandlerOp (op : HandlerOp) (s : State) : State :=
  match op with
  | .setReg r v => setReg16 r v s
  | .setSeg r v => setSreg r v s
  | .setIp v => setIp v s
  | .storeFlags v => storeFlags v s
  | .bus b => runBusOp b s

/-- The effects of a call in order. -/
def runHandlerOps : List HandlerOp → State → State
  | [], s => s
  | op :: ops, s => runHandlerOps ops (runHandlerOp op s)

/-! ### Taking an interrupt or exception -/

/-- The reply of the next call of the handler installed for vector `n`, and the handlers after that call; none when no
handler is installed (60_exceptions.md R510, R511). -/
def nextReply (n : Byte) : List SoftHandler → Option (HandlerReply × List SoftHandler)
  | [] => none
  | h :: hs =>
    if h.vector = n then
      match h.replies with
      | [] => some (h.after, h :: hs)
      | r :: rs => some (r, { h with replies := rs } :: hs)
    else
      match nextReply n hs with
      | none => none
      | some (r, hs') => some (r, h :: hs')

/-- The offset of a vector's entry in segment 0: `4n` (60_exceptions.md R510). -/
def vectorOff (n : Byte) : Word := n.setWidth 16 * 4#16

/-- The hardware path of `DoInterrupt(n)`: push FLAGS, CS and IP, load IP and CS from the vector table, clear TF and IF
(60_exceptions.md R510). -/
def vectorThrough (n : Byte) (s : State) : State :=
  let s1 := push16 s.flags s
  let s2 := push16 s1.seg.cs s1
  let s3 := push16 s2.ip s2
  let newIp := memRead16 0#16 (vectorOff n) s3
  let newCs := memRead16 0#16 (vectorOff n + 2#16) newIp.2
  clearTfIf (farTo newCs.1 newIp.1 newCs.2)

/-- `DoInterrupt(n)` (60_exceptions.md R510, R511). -/
def doInterrupt (n : Byte) (s : State) : Res :=
  match nextReply n s.softInt with
  | none => .next (vectorThrough n s)
  | some (r, hs) =>
    let s1 := runHandlerOps r.ops { s with softInt := hs }
    match r.result with
    | .notHandled => .next (vectorThrough n s1)
    | .ok => .next (clearTfIf s1)
    | .error e => .fault (.handlerError e (clearTfIf s1))

/-- `IP <- decode_start` (10_state.md R36). -/
def rollBack (s : State) : State := setIp s.dec.start s

/-- `raise DivideFault()` (60_exceptions.md R520). -/
def divideFault (s : State) : Res := doInterrupt 0#8 (rollBack s)

/-- `raise BoundFault()` (46_v20_extensions.md R476). -/
def boundFault (s : State) : Res := doInterrupt 5#8 (rollBack s)

/-- `raise InvalidOpcode()` (60_exceptions.md R522). -/
def invalidOpcode (s : State) : Res := doInterrupt 6#8 (rollBack s)

/-- The `DebugBreak` outcome (60_exceptions.md R524). -/
def debugBreakStop (s : State) : Res := .fault (.debugBreak { rollBack s with debugBreak := true })

/-- An illegal encoding: `DebugBreak` in `I8088` mode, interrupt 6 in `V20` mode (30_encoding.md R141). -/
def illegalEncoding (s : State) : Res :=
  match s.cpuMode with
  | .i8088 => debugBreakStop s
  | .v20 => invalidOpcode s

/-- An instruction of 46_v20_extensions.md: in `I8088` mode its opcode is illegal (R470). -/
def v20Only (s : State) (k : State → Res) : Res :=
  match s.cpuMode with
  | .i8088 => debugBreakStop s
  | .v20 => k s

/-- The return from an interrupt: `IP <- Pop16(); CS <- Pop16(); Store(Pop16())` (44_control_transfer.md R426). -/
def interruptReturn (s : State) : State :=
  let newIp := pop16 s
  let newCs := pop16 newIp.2
  let newFlags := pop16 newCs.2
  storeFlags newFlags.1 (farTo newCs.1 newIp.1 newFlags.2)

/-! ### Polling, ticking and the host's reset -/

/-- `PollPending()` (60_exceptions.md R507): the vector the attached controller answers, if any. -/
def pollPending (s : State) : Option Byte × State :=
  match s.pic with
  | none => (none, s)
  | some [] => (none, s)
  | some (a :: rest) => (a, { s with pic := some rest })

/-- The next tick of a peripheral, and the peripheral after it. -/
def Peripheral.nextTick (p : Peripheral) : Tick × Peripheral :=
  match p.ticks with
  | [] => ({ ops := [], error := none }, p)
  | t :: ts => (t, { p with ticks := ts })

/-- The tick phase from peripheral number `k` on, `n` of them left: each `Step(cycles)` in registration order, the first
error ends the step (60_exceptions.md R502 item 8, R526). -/
def tickFrom : Nat → Nat → State → Res
  | 0, _, s => .next s
  | n + 1, k, s =>
    match s.peripherals[k]? with
    | none => .next s
    | some p =>
      let s1 := runBusOps p.nextTick.1.ops { s with peripherals := s.peripherals.set k p.nextTick.2 }
      match p.nextTick.1.error with
      | some e => .fault (.peripheralError e s1)
      | none => tickFrom n (k + 1) s1

/-- The tick phase of a step (60_exceptions.md R502 item 8). -/
def tickAll (s : State) : Res := tickFrom s.peripherals.length 0 s

/-- The peripherals' own `Reset()` in registration order (70_reset_and_hazards.md R550 item 2). What one does is the device's;
that it does the same at every reset is the model's: DESIGN CHOICE, notes/assumptions/28.md. -/
def resetPeripherals : List Peripheral → State → State
  | [], s => s
  | p :: ps, s => resetPeripherals ps (runBusOps p.resetOps s)

/-- The host's `Reset()`, called between two steps (70_reset_and_hazards.md R550, R551): `icount`, the dispatch tables and
the contents of memory are not changed by the core. -/
def hostReset (s : State) : State :=
  let s1 := { s with
    gpr := { ax := 0#16, cx := 0#16, dx := 0#16, bx := 0#16, sp := 0#16, bp := 0#16, si := 0#16, di := 0#16 }
    seg := { es := 0#16, cs := 0#16, ss := 0#16, ds := 0#16 }
    ip := 0#16 }
  let s2 := resetPeripherals s1.peripherals (storeFlags 0#16 s1)
  { setSreg .cs 0xFFFF#16 s2 with trap := false, debugBreak := false, signal := .ok }

end Sys2Proof.Machine
end

