-- ==== Sys2Proof/Machine/Operands.lean ====
section
/-! DEFINITION. Operands: the effective-address resolver (30_encoding.md R121 to R126), the data locations
(10_state.md R48) and the shapes of instruction that many rows share: a move, a push, a pop, a two-operand ALU
operation, a shift. Every location is resolved before the instruction reads or writes anything (R124). -/

namespace Sys2Proof.Machine

/-! ### The effective-address resolver -/

/-- Base plus index (30_encoding.md R123). -/
def baseOffset (b : EaBase) (s : State) : Word :=
  match b with
  | .bxSi => s.gpr.bx + s.gpr.si
  | .bxDi => s.gpr.bx + s.gpr.di
  | .bpSi => s.gpr.bp + s.gpr.si
  | .bpDi => s.gpr.bp + s.gpr.di
  | .si => s.gpr.si
  | .di => s.gpr.di
  | .bp => s.gpr.bp
  | .bx => s.gpr.bx

/-- The default segment of a base form (30_encoding.md R123). -/
def baseSegment (b : EaBase) : Sreg :=
  match b with
  | .bxSi => .ds | .bxDi => .ds | .bpSi => .ss | .bpDi => .ss
  | .si => .ds | .di => .ds | .bp => .ss | .bx => .ds

/-- `off = (base + index + disp) mod 2^16` (30_encoding.md R123). -/
def eaOffset (m : MemOp) (s : State) : Word :=
  match m with
  | .direct a => a
  | .disp0 b => baseOffset b s
  | .disp8 b d => baseOffset b s + sext16 d
  | .disp16 b d => baseOffset b s + d

/-- The default segment of a memory operand (30_encoding.md R123). -/
def eaDefault (m : MemOp) : Sreg :=
  match m with
  | .direct _ => .ds
  | .disp0 b => baseSegment b
  | .disp8 b _ => baseSegment b
  | .disp16 b _ => baseSegment b

/-- The segment of an operand with default segment `d`: the override if a segment prefix was decoded
(30_encoding.md R125). -/
def segFor (d : Sreg) (s : State) : Word :=
  match s.dec.segOverride with
  | some r => sreg r s
  | none => sreg d s

/-- The segment of a memory operand. -/
def eaSegment (m : MemOp) (s : State) : Word := segFor (eaDefault m) s

/-! ### Data locations (10_state.md R48) -/

/-- A byte location. -/
inductive Loc8 where
  | reg (r : Reg8)
  | mem (seg off : Word)
  deriving DecidableEq, Repr

/-- A word location. -/
inductive Loc16 where
  | reg (r : Reg16)
  | sreg (r : Sreg)
  | mem (seg off : Word)
  deriving DecidableEq, Repr

/-- The location of an `r/m8` operand. -/
def loc8 (e : RM Reg8) (s : State) : Loc8 :=
  match e with
  | .reg r => .reg r
  | .mem m => .mem (eaSegment m s) (eaOffset m s)

/-- The location of an `r/m16` operand. -/
def loc16 (e : RM Reg16) (s : State) : Loc16 :=
  match e with
  | .reg r => .reg r
  | .mem m => .mem (eaSegment m s) (eaOffset m s)

/-- A byte read through a location. -/
def readLoc8 (l : Loc8) (s : State) : Byte × State :=
  match l with
  | .reg r => (reg8 r s, s)
  | .mem seg off => memRead8 seg off s

/-- A byte written through a location. -/
def writeLoc8 (l : Loc8) (v : Byte) (s : State) : State :=
  match l with
  | .reg r => setReg8 r v s
  | .mem seg off => memWrite8 seg off v s

/-- A word read through a location. -/
def readLoc16 (l : Loc16) (s : State) : Word × State :=
  match l with
  | .reg r => (reg16 r s, s)
  | .sreg r => (sreg r s, s)
  | .mem seg off => memRead16 seg off s

/-- A word written through a location. -/
def writeLoc16 (l : Loc16) (v : Word) (s : State) : State :=
  match l with
  | .reg r => setReg16 r v s
  | .sreg r => setSreg r v s
  | .mem seg off => memWrite16 seg off v s

/-- A far pointer `m16:16`: the offset word first, the segment word two bytes above it (30_encoding.md R126).
The first component is the offset, the second the segment. -/
def readFar (m : MemOp) (s : State) : (Word × Word) × State :=
  let o := memRead16 (eaSegment m s) (eaOffset m s) s
  let g := memRead16 (eaSegment m s) (eaOffset m s + 2#16) o.2
  ((o.1, g.1), g.2)

/-! ### Shapes of instruction -/

/-- `dst <- src`, byte. -/
def move8 (dst src : Loc8) (s : State) : State := writeLoc8 dst (readLoc8 src s).1 (readLoc8 src s).2

/-- `dst <- src`, word. -/
def move16 (dst src : Loc16) (s : State) : State := writeLoc16 dst (readLoc16 src s).1 (readLoc16 src s).2

/-- `a <- E; b <- G; E <- b; G <- a`, byte (40_data_transfer.md R212). -/
def exchange8 (e g : Loc8) (s : State) : State :=
  let a := readLoc8 e s
  let b := readLoc8 g a.2
  writeLoc8 g a.1 (writeLoc8 e b.1 b.2)

/-- `a <- E; b <- G; E <- b; G <- a`, word (40_data_transfer.md R212). -/
def exchange16 (e g : Loc16) (s : State) : State :=
  let a := readLoc16 e s
  let b := readLoc16 g a.2
  writeLoc16 g a.1 (writeLoc16 e b.1 b.2)

/-- SP is decremented, the location read, the word written at the new top (40_data_transfer.md R214, R216). -/
def pushLoc (l : Loc16) (s : State) : State :=
  let v := readLoc16 l (decSp s)
  memWrite16 s.seg.ss (s.gpr.sp - 2#16) v.1 v.2

/-- `l <- Pop16()` (40_data_transfer.md R217 to R219). -/
def popLoc (l : Loc16) (s : State) : State := writeLoc16 l (pop16 s).1 (pop16 s).2

/-- The two-operand ALU operation on a byte already read: FLAGS, then the destination unless the operation is CMP
(41_arithmetic.md R265). -/
def aluApply8 (op : AluOp) (dst : Loc8) (a b : Byte) (s : State) : State :=
  let r := aluFlags op a b s.flags
  if op = .cmp then setFlags r.2 s else writeLoc8 dst r.1 (setFlags r.2 s)

/-- The two-operand ALU operation on a word already read (41_arithmetic.md R265). -/
def aluApply16 (op : AluOp) (dst : Loc16) (a b : Word) (s : State) : State :=
  let r := aluFlags op a b s.flags
  if op = .cmp then setFlags r.2 s else writeLoc16 dst r.1 (setFlags r.2 s)

/-- `dst <- OP(dst, src)`, byte locations (41_arithmetic.md R265). -/
def alu8 (op : AluOp) (dst src : Loc8) (s : State) : State :=
  let a := readLoc8 dst s
  let b := readLoc8 src a.2
  aluApply8 op dst a.1 b.1 b.2

/-- `dst <- OP(dst, src)`, word locations (41_arithmetic.md R265). -/
def alu16 (op : AluOp) (dst src : Loc16) (s : State) : State :=
  let a := readLoc16 dst s
  let b := readLoc16 src a.2
  aluApply16 op dst a.1 b.1 b.2

/-- `dst <- OP(dst, imm)`, byte (41_arithmetic.md R265). -/
def aluImm8 (op : AluOp) (dst : Loc8) (v : Byte) (s : State) : State :=
  let a := readLoc8 dst s
  aluApply8 op dst a.1 v a.2

/-- `dst <- OP(dst, imm)`, word (41_arithmetic.md R265). -/
def aluImm16 (op : AluOp) (dst : Loc16) (v : Word) (s : State) : State :=
  let a := readLoc16 dst s
  aluApply16 op dst a.1 v a.2

/-- `write(dst, f(read(dst)))` where `f` also computes FLAGS, byte (41_arithmetic.md R271 to R273). -/
def modify8 (f : Byte → Word → Byte × Word) (l : Loc8) (s : State) : State :=
  let a := readLoc8 l s
  let r := f a.1 a.2.flags
  writeLoc8 l r.1 (setFlags r.2 a.2)

/-- `write(dst, f(read(dst)))` where `f` also computes FLAGS, word (41_arithmetic.md R271 to R273). -/
def modify16 (f : Word → Word → Word × Word) (l : Loc16) (s : State) : State :=
  let a := readLoc16 l s
  let r := f a.1 a.2.flags
  writeLoc16 l r.1 (setFlags r.2 a.2)

/-- FLAGS of `a & b`, nothing written (42_logic_shift.md R324). -/
def testWith {n : Nat} (a b : BitVec n) (s : State) : State := setFlags (logicFlags (a &&& b) s.flags) s

/-- The flags a shift or rotate by at least one leaves: AF is undefined after SHL, SHR and SAR and kept by the rotates
(42_logic_shift.md R332 to R338). -/
def shiftAux (op : ShiftOp) (s : State) : State := if isPlainShift op then undefFlags [.aux] s else s

/-- A shift or rotate of a byte location by the raw count `raw` (42_logic_shift.md R330, R331): the operand is read once;
a count of 0 writes nothing. -/
def shift8 (op : ShiftOp) (l : Loc8) (raw : Byte) (s : State) : State :=
  let a := readLoc8 l s
  let cnt := effectiveCount s.cpuMode raw
  if cnt = 0 then a.2
  else
    let r := shiftFlags op a.1 cnt a.2.flags
    writeLoc8 l r.1 (shiftAux op (setFlags r.2 a.2))

/-- A shift or rotate of a word location by the raw count `raw` (42_logic_shift.md R330, R331). -/
def shift16 (op : ShiftOp) (l : Loc16) (raw : Byte) (s : State) : State :=
  let a := readLoc16 l s
  let cnt := effectiveCount s.cpuMode raw
  if cnt = 0 then a.2
  else
    let r := shiftFlags op a.1 cnt a.2.flags
    writeLoc16 l r.1 (shiftAux op (setFlags r.2 a.2))

/-- `IP <- (IP + sext_16(rel8)) mod 2^16` (30_encoding.md R115 (c), 44_control_transfer.md R400). -/
def jumpRel8 (d : Byte) (s : State) : State := setIp (s.ip + sext16 d) s

/-- `IP <- (IP + rel16) mod 2^16` (30_encoding.md R115 (d), 44_control_transfer.md R400). -/
def jumpRel16 (d : Word) (s : State) : State := setIp (s.ip + d) s

/-- A conditional short jump (44_control_transfer.md R405). -/
def jumpIf (c : Bool) (d : Byte) (s : State) : State := if c then jumpRel8 d s else s

end Sys2Proof.Machine
end

