-- ==== Sys2Proof/Machine/Arithmetic.lean ====
section
/-! DEFINITION. The meanings of the arithmetic rows (41_arithmetic.md) and of the two-operand logical rows, which have the
same six forms and group 1 (30_encoding.md R116): ADD, OR, ADC, SBB, AND, SUB, XOR, CMP; INC, DEC, NEG; MUL, IMUL, DIV,
IDIV; DAA, DAS, AAA, AAS, AAM, AAD. -/

namespace Sys2Proof.Machine

/-! ### ADD (R266, R265; 30_encoding.md R116) -/

def execAddEbGb (e : RM Reg8) (g : Reg8) (s : State) : Res := .next (alu8 .add (loc8 e s) (.reg g) s)
def execAddEvGv (e : RM Reg16) (g : Reg16) (s : State) : Res := .next (alu16 .add (loc16 e s) (.reg g) s)
def execAddGbEb (g : Reg8) (e : RM Reg8) (s : State) : Res := .next (alu8 .add (.reg g) (loc8 e s) s)
def execAddGvEv (g : Reg16) (e : RM Reg16) (s : State) : Res := .next (alu16 .add (.reg g) (loc16 e s) s)
def execAddAlIb (v : Byte) (s : State) : Res := .next (aluImm8 .add (.reg .al) v s)
def execAddAxIw (v : Word) (s : State) : Res := .next (aluImm16 .add (.reg .ax) v s)
def execAddEbIb (e : RM Reg8) (v : Byte) (s : State) : Res := .next (aluImm8 .add (loc8 e s) v s)
def execAddEvIw (e : RM Reg16) (v : Word) (s : State) : Res := .next (aluImm16 .add (loc16 e s) v s)
def execAddEbIb82 (e : RM Reg8) (v : Byte) (s : State) : Res := .next (aluImm8 .add (loc8 e s) v s)
def execAddEvIbS (e : RM Reg16) (v : Byte) (s : State) : Res := .next (aluImm16 .add (loc16 e s) (sext16 v) s)

/-! ### OR (42_logic_shift.md R322, R265; 30_encoding.md R116) -/

def execOrEbGb (e : RM Reg8) (g : Reg8) (s : State) : Res := .next (alu8 .or (loc8 e s) (.reg g) s)
def execOrEvGv (e : RM Reg16) (g : Reg16) (s : State) : Res := .next (alu16 .or (loc16 e s) (.reg g) s)
def execOrGbEb (g : Reg8) (e : RM Reg8) (s : State) : Res := .next (alu8 .or (.reg g) (loc8 e s) s)
def execOrGvEv (g : Reg16) (e : RM Reg16) (s : State) : Res := .next (alu16 .or (.reg g) (loc16 e s) s)
def execOrAlIb (v : Byte) (s : State) : Res := .next (aluImm8 .or (.reg .al) v s)
def execOrAxIw (v : Word) (s : State) : Res := .next (aluImm16 .or (.reg .ax) v s)
def execOrEbIb (e : RM Reg8) (v : Byte) (s : State) : Res := .next (aluImm8 .or (loc8 e s) v s)
def execOrEvIw (e : RM Reg16) (v : Word) (s : State) : Res := .next (aluImm16 .or (loc16 e s) v s)
def execOrEbIb82 (e : RM Reg8) (v : Byte) (s : State) : Res := .next (aluImm8 .or (loc8 e s) v s)
def execOrEvIbS (e : RM Reg16) (v : Byte) (s : State) : Res := .next (aluImm16 .or (loc16 e s) (sext16 v) s)

/-! ### ADC (R267, R265; 30_encoding.md R116) -/

def execAdcEbGb (e : RM Reg8) (g : Reg8) (s : State) : Res := .next (alu8 .adc (loc8 e s) (.reg g) s)
def execAdcEvGv (e : RM Reg16) (g : Reg16) (s : State) : Res := .next (alu16 .adc (loc16 e s) (.reg g) s)
def execAdcGbEb (g : Reg8) (e : RM Reg8) (s : State) : Res := .next (alu8 .adc (.reg g) (loc8 e s) s)
def execAdcGvEv (g : Reg16) (e : RM Reg16) (s : State) : Res := .next (alu16 .adc (.reg g) (loc16 e s) s)
def execAdcAlIb (v : Byte) (s : State) : Res := .next (aluImm8 .adc (.reg .al) v s)
def execAdcAxIw (v : Word) (s : State) : Res := .next (aluImm16 .adc (.reg .ax) v s)
def execAdcEbIb (e : RM Reg8) (v : Byte) (s : State) : Res := .next (aluImm8 .adc (loc8 e s) v s)
def execAdcEvIw (e : RM Reg16) (v : Word) (s : State) : Res := .next (aluImm16 .adc (loc16 e s) v s)
def execAdcEbIb82 (e : RM Reg8) (v : Byte) (s : State) : Res := .next (aluImm8 .adc (loc8 e s) v s)
def execAdcEvIbS (e : RM Reg16) (v : Byte) (s : State) : Res := .next (aluImm16 .adc (loc16 e s) (sext16 v) s)

/-! ### SBB (R269, R265; 30_encoding.md R116) -/

def execSbbEbGb (e : RM Reg8) (g : Reg8) (s : State) : Res := .next (alu8 .sbb (loc8 e s) (.reg g) s)
def execSbbEvGv (e : RM Reg16) (g : Reg16) (s : State) : Res := .next (alu16 .sbb (loc16 e s) (.reg g) s)
def execSbbGbEb (g : Reg8) (e : RM Reg8) (s : State) : Res := .next (alu8 .sbb (.reg g) (loc8 e s) s)
def execSbbGvEv (g : Reg16) (e : RM Reg16) (s : State) : Res := .next (alu16 .sbb (.reg g) (loc16 e s) s)
def execSbbAlIb (v : Byte) (s : State) : Res := .next (aluImm8 .sbb (.reg .al) v s)
def execSbbAxIw (v : Word) (s : State) : Res := .next (aluImm16 .sbb (.reg .ax) v s)
def execSbbEbIb (e : RM Reg8) (v : Byte) (s : State) : Res := .next (aluImm8 .sbb (loc8 e s) v s)
def execSbbEvIw (e : RM Reg16) (v : Word) (s : State) : Res := .next (aluImm16 .sbb (loc16 e s) v s)
def execSbbEbIb82 (e : RM Reg8) (v : Byte) (s : State) : Res := .next (aluImm8 .sbb (loc8 e s) v s)
def execSbbEvIbS (e : RM Reg16) (v : Byte) (s : State) : Res := .next (aluImm16 .sbb (loc16 e s) (sext16 v) s)

/-! ### AND (42_logic_shift.md R321, R265; 30_encoding.md R116) -/

def execAndEbGb (e : RM Reg8) (g : Reg8) (s : State) : Res := .next (alu8 .and (loc8 e s) (.reg g) s)
def execAndEvGv (e : RM Reg16) (g : Reg16) (s : State) : Res := .next (alu16 .and (loc16 e s) (.reg g) s)
def execAndGbEb (g : Reg8) (e : RM Reg8) (s : State) : Res := .next (alu8 .and (.reg g) (loc8 e s) s)
def execAndGvEv (g : Reg16) (e : RM Reg16) (s : State) : Res := .next (alu16 .and (.reg g) (loc16 e s) s)
def execAndAlIb (v : Byte) (s : State) : Res := .next (aluImm8 .and (.reg .al) v s)
def execAndAxIw (v : Word) (s : State) : Res := .next (aluImm16 .and (.reg .ax) v s)
def execAndEbIb (e : RM Reg8) (v : Byte) (s : State) : Res := .next (aluImm8 .and (loc8 e s) v s)
def execAndEvIw (e : RM Reg16) (v : Word) (s : State) : Res := .next (aluImm16 .and (loc16 e s) v s)
def execAndEbIb82 (e : RM Reg8) (v : Byte) (s : State) : Res := .next (aluImm8 .and (loc8 e s) v s)
def execAndEvIbS (e : RM Reg16) (v : Byte) (s : State) : Res := .next (aluImm16 .and (loc16 e s) (sext16 v) s)

/-! ### SUB (R268, R265; 30_encoding.md R116) -/

def execSubEbGb (e : RM Reg8) (g : Reg8) (s : State) : Res := .next (alu8 .sub (loc8 e s) (.reg g) s)
def execSubEvGv (e : RM Reg16) (g : Reg16) (s : State) : Res := .next (alu16 .sub (loc16 e s) (.reg g) s)
def execSubGbEb (g : Reg8) (e : RM Reg8) (s : State) : Res := .next (alu8 .sub (.reg g) (loc8 e s) s)
def execSubGvEv (g : Reg16) (e : RM Reg16) (s : State) : Res := .next (alu16 .sub (.reg g) (loc16 e s) s)
def execSubAlIb (v : Byte) (s : State) : Res := .next (aluImm8 .sub (.reg .al) v s)
def execSubAxIw (v : Word) (s : State) : Res := .next (aluImm16 .sub (.reg .ax) v s)
def execSubEbIb (e : RM Reg8) (v : Byte) (s : State) : Res := .next (aluImm8 .sub (loc8 e s) v s)
def execSubEvIw (e : RM Reg16) (v : Word) (s : State) : Res := .next (aluImm16 .sub (loc16 e s) v s)
def execSubEbIb82 (e : RM Reg8) (v : Byte) (s : State) : Res := .next (aluImm8 .sub (loc8 e s) v s)
def execSubEvIbS (e : RM Reg16) (v : Byte) (s : State) : Res := .next (aluImm16 .sub (loc16 e s) (sext16 v) s)

/-! ### XOR (42_logic_shift.md R323, R265; 30_encoding.md R116) -/

def execXorEbGb (e : RM Reg8) (g : Reg8) (s : State) : Res := .next (alu8 .xor (loc8 e s) (.reg g) s)
def execXorEvGv (e : RM Reg16) (g : Reg16) (s : State) : Res := .next (alu16 .xor (loc16 e s) (.reg g) s)
def execXorGbEb (g : Reg8) (e : RM Reg8) (s : State) : Res := .next (alu8 .xor (.reg g) (loc8 e s) s)
def execXorGvEv (g : Reg16) (e : RM Reg16) (s : State) : Res := .next (alu16 .xor (.reg g) (loc16 e s) s)
def execXorAlIb (v : Byte) (s : State) : Res := .next (aluImm8 .xor (.reg .al) v s)
def execXorAxIw (v : Word) (s : State) : Res := .next (aluImm16 .xor (.reg .ax) v s)
def execXorEbIb (e : RM Reg8) (v : Byte) (s : State) : Res := .next (aluImm8 .xor (loc8 e s) v s)
def execXorEvIw (e : RM Reg16) (v : Word) (s : State) : Res := .next (aluImm16 .xor (loc16 e s) v s)
def execXorEbIb82 (e : RM Reg8) (v : Byte) (s : State) : Res := .next (aluImm8 .xor (loc8 e s) v s)
def execXorEvIbS (e : RM Reg16) (v : Byte) (s : State) : Res := .next (aluImm16 .xor (loc16 e s) (sext16 v) s)

/-! ### CMP (R270, R265; 30_encoding.md R116) -/

def execCmpEbGb (e : RM Reg8) (g : Reg8) (s : State) : Res := .next (alu8 .cmp (loc8 e s) (.reg g) s)
def execCmpEvGv (e : RM Reg16) (g : Reg16) (s : State) : Res := .next (alu16 .cmp (loc16 e s) (.reg g) s)
def execCmpGbEb (g : Reg8) (e : RM Reg8) (s : State) : Res := .next (alu8 .cmp (.reg g) (loc8 e s) s)
def execCmpGvEv (g : Reg16) (e : RM Reg16) (s : State) : Res := .next (alu16 .cmp (.reg g) (loc16 e s) s)
def execCmpAlIb (v : Byte) (s : State) : Res := .next (aluImm8 .cmp (.reg .al) v s)
def execCmpAxIw (v : Word) (s : State) : Res := .next (aluImm16 .cmp (.reg .ax) v s)
def execCmpEbIb (e : RM Reg8) (v : Byte) (s : State) : Res := .next (aluImm8 .cmp (loc8 e s) v s)
def execCmpEvIw (e : RM Reg16) (v : Word) (s : State) : Res := .next (aluImm16 .cmp (loc16 e s) v s)
def execCmpEbIb82 (e : RM Reg8) (v : Byte) (s : State) : Res := .next (aluImm8 .cmp (loc8 e s) v s)
def execCmpEvIbS (e : RM Reg16) (v : Byte) (s : State) : Res := .next (aluImm16 .cmp (loc16 e s) (sext16 v) s)

/-! ### INC, DEC, NEG (R271 to R273) -/

def execIncR16 (r : Reg16) (s : State) : Res := .next (modify16 incFlags (.reg r) s)
def execIncEb (e : RM Reg8) (s : State) : Res := .next (modify8 incFlags (loc8 e s) s)
def execIncEv (e : RM Reg16) (s : State) : Res := .next (modify16 incFlags (loc16 e s) s)
def execDecR16 (r : Reg16) (s : State) : Res := .next (modify16 decFlags (.reg r) s)
def execDecEb (e : RM Reg8) (s : State) : Res := .next (modify8 decFlags (loc8 e s) s)
def execDecEv (e : RM Reg16) (s : State) : Res := .next (modify16 decFlags (loc16 e s) s)

/-- `SubFlags(w, 0, a, 0)` (R273). -/
def negFlags {n : Nat} (a : BitVec n) (fl : Word) : BitVec n × Word := subFlags 0#n a false fl

def execNegEb (e : RM Reg8) (s : State) : Res := .next (modify8 negFlags (loc8 e s) s)
def execNegEv (e : RM Reg16) (s : State) : Res := .next (modify16 negFlags (loc16 e s) s)

/-! ### MUL and IMUL (R280, R281) -/

/-- CF and OF are both `b`; SF ZF AF PF are undefined (R280, R281). -/
def mulFlags (b : Bool) (s : State) : State :=
  undefFlags [.sign, .zero, .aux, .parity] (setFlag .overflow b (setFlag .carry b s))

/-- `DX <- p[31:16]; AX <- p[15:0]` (R280, R281). -/
def setDxAx (p : BitVec 32) (s : State) : State :=
  setReg16 .ax (p.extractLsb' 0 16) (setReg16 .dx (p.extractLsb' 16 16) s)

/-- The dividend or product register pair `DX : AX`. -/
def dxAx (s : State) : BitVec 32 := s.gpr.dx ++ s.gpr.ax

def execMulEb (e : RM Reg8) (s : State) : Res :=
  let a := readLoc8 (loc8 e s) s
  let p := (reg8 .al a.2).setWidth 16 * a.1.setWidth 16
  .next (mulFlags (hiByte p != 0#8) (setReg16 .ax p a.2))
def execMulEv (e : RM Reg16) (s : State) : Res :=
  let a := readLoc16 (loc16 e s) s
  let p := (a.2.gpr.ax).setWidth 32 * a.1.setWidth 32
  .next (mulFlags (p.extractLsb' 16 16 != 0#16) (setDxAx p a.2))
/-- The product is exact; CF and OF say it is not the sign extension of its low half (R281). -/
def execImulEb (e : RM Reg8) (s : State) : Res :=
  let a := readLoc8 (loc8 e s) s
  let p := (reg8 .al a.2).toInt * a.1.toInt
  let r := BitVec.ofInt 16 p
  .next (mulFlags (decide (p ≠ (loByte r).toInt)) (setReg16 .ax r a.2))
def execImulEv (e : RM Reg16) (s : State) : Res :=
  let a := readLoc16 (loc16 e s) s
  let p := a.2.gpr.ax.toInt * a.1.toInt
  let r := BitVec.ofInt 32 p
  .next (mulFlags (decide (p ≠ (r.extractLsb' 0 16).toInt)) (setDxAx r a.2))

/-! ### DIV and IDIV (R282, R283) -/

/-- The six status flags, all undefined after a division (R282, R283). -/
def statusFlags : List Flag := [.overflow, .sign, .zero, .aux, .parity, .carry]

/-- `AL <- q; AH <- r`, the flags undefined. -/
def quotient8 (q r : Byte) (s : State) : State := undefFlags statusFlags (setReg8 .ah r (setReg8 .al q s))

/-- `AX <- q; DX <- r`, the flags undefined. -/
def quotient16 (q r : Word) (s : State) : State := undefFlags statusFlags (setReg16 .dx r (setReg16 .ax q s))

/-- The least quotient IDIV returns, `qmin`, by `P_IDIV_MIN`: false in `I8088` mode, true in `V20` mode (R283, 92 D14). -/
def idivMin (n : Nat) (mode : CpuMode) : Int :=
  match mode with
  | .i8088 => -(2 ^ (n - 1) - 1)
  | .v20 => -(2 ^ (n - 1))

def execDivEb (e : RM Reg8) (s : State) : Res :=
  let a := readLoc8 (loc8 e s) s
  let n := a.2.gpr.ax.toNat
  let d := a.1.toNat
  if d = 0 then divideFault a.2
  else if n / d > 0xFF then divideFault a.2
  else .next (quotient8 (BitVec.ofNat 8 (n / d)) (BitVec.ofNat 8 (n % d)) a.2)
def execDivEv (e : RM Reg16) (s : State) : Res :=
  let a := readLoc16 (loc16 e s) s
  let n := (dxAx a.2).toNat
  let d := a.1.toNat
  if d = 0 then divideFault a.2
  else if n / d > 0xFFFF then divideFault a.2
  else .next (quotient16 (BitVec.ofNat 16 (n / d)) (BitVec.ofNat 16 (n % d)) a.2)
/-- The quotient is truncated toward zero and the remainder has the sign of the dividend (R283). -/
def execIdivEb (e : RM Reg8) (s : State) : Res :=
  let a := readLoc8 (loc8 e s) s
  let n := a.2.gpr.ax.toInt
  let d := a.1.toInt
  if d = 0 then divideFault a.2
  else if n.tdiv d > 0x7F ∨ n.tdiv d < idivMin 8 a.2.cpuMode then divideFault a.2
  else .next (quotient8 (BitVec.ofInt 8 (n.tdiv d)) (BitVec.ofInt 8 (n.tmod d)) a.2)
def execIdivEv (e : RM Reg16) (s : State) : Res :=
  let a := readLoc16 (loc16 e s) s
  let n := (dxAx a.2).toInt
  let d := a.1.toInt
  if d = 0 then divideFault a.2
  else if n.tdiv d > 0x7FFF ∨ n.tdiv d < idivMin 16 a.2.cpuMode then divideFault a.2
  else .next (quotient16 (BitVec.ofInt 16 (n.tdiv d)) (BitVec.ofInt 16 (n.tmod d)) a.2)

/-! ### BCD adjust (R290 to R295) -/

/-- What a BCD adjust leaves in AL, AF and CF. -/
structure Adjusted where
  al : Byte
  af : Bool
  cf : Bool
  deriving DecidableEq, Repr

/-- The low nibble needs correction (R290 to R293). -/
def lowNibbleOver (al : Byte) (af : Bool) : Bool := decide ((al &&& 0x0F#8).toNat > 9) || af

/-- DAA on AL, AF and CF: the second test reads AL and CF as the first step leaves them (R290). -/
def daaAdjust (al : Byte) (af cf : Bool) : Adjusted :=
  let low := lowNibbleOver al af
  let al1 := if low then al + 6#8 else al
  let cf1 := if low then cf || decide (al.toNat + 6 ≥ 256) else cf
  let high := decide ((al1 &&& 0xF0#8).toNat > 0x90) || cf1
  { al := if high then al1 + 0x60#8 else al1, af := low, cf := high }

/-- DAS on AL, AF and CF: the second test reads the old AL and CF, and has no else (R291, 90_conflicts.md C3). -/
def dasAdjust (al : Byte) (af cf : Bool) : Adjusted :=
  let low := lowNibbleOver al af
  let al1 := if low then al - 6#8 else al
  let cf1 := if low then cf || decide (al.toNat < 6) else false
  let high := decide (al.toNat > 0x99) || cf
  { al := if high then al1 - 0x60#8 else al1, af := low, cf := if high then true else cf1 }

/-- DAA and DAS write AL, AF, CF and SF ZF PF; OF is undefined (R290, R291). -/
def putAdjusted (a : Adjusted) (s : State) : State :=
  undefFlags [.overflow]
    (setFlags (szp a.al (putFlag .carry a.cf (putFlag .aux a.af s.flags))) (setReg8 .al a.al s))

/-- AAA and AAS: AL by `da` and AH by `dh` when the low nibble needs correction, then the low nibble of AL; AF = CF; OF
SF ZF PF undefined (R292, R293, 92 D31). -/
def asciiAdjust (da dh : Byte) (s : State) : State :=
  let adj := lowNibbleOver (reg8 .al s) (flag .aux s)
  let s1 := if adj then setReg8 .ah (reg8 .ah s + dh) (setReg8 .al (reg8 .al s + da) s) else s
  let s2 := setReg8 .al (reg8 .al s1 &&& 0x0F#8) s1
  undefFlags [.overflow, .sign, .zero, .parity] (setFlag .carry adj (setFlag .aux adj s2))

/-- AAM and AAD set SF ZF PF from AL and leave OF, AF and CF undefined (R294, R295). -/
def aamFlags (s : State) : State := undefFlags [.overflow, .aux, .carry] (setFlags (szp (reg8 .al s) s.flags) s)

def execDaa (s : State) : Res := .next (putAdjusted (daaAdjust (reg8 .al s) (flag .aux s) (flag .carry s)) s)
def execDas (s : State) : Res := .next (putAdjusted (dasAdjust (reg8 .al s) (flag .aux s) (flag .carry s)) s)
def execAaa (s : State) : Res := .next (asciiAdjust 6#8 1#8 s)
def execAas (s : State) : Res := .next (asciiAdjust (-6#8) (-1#8) s)
/-- A base of 0 raises the divide fault (R294, 92 D15). -/
def execAamIb (v : Byte) (s : State) : Res :=
  if v = 0#8 then divideFault s
  else
    let al := reg8 .al s
    .next (aamFlags (setReg8 .al (al % v) (setReg8 .ah (al / v) s)))
def execAadIb (v : Byte) (s : State) : Res :=
  .next (aamFlags (setReg8 .ah 0#8 (setReg8 .al (reg8 .al s + reg8 .ah s * v) s)))

end Sys2Proof.Machine
end

