-- ==== Sys2Proof/Machine/Control.lean ====
section
/-! DEFINITION. The meanings of the control transfer rows (44_control_transfer.md): JMP, Jcc, CALL, RET, RETF, LOOP, JCXZ,
INT, INTO, IRET. IP is the offset after the instruction's last byte (10_state.md R35). -/

namespace Sys2Proof.Machine

/-! ### Jumps (R401 to R407) -/

def execJmpRel8 (d : Byte) (s : State) : Res := .next (jumpRel8 d s)
def execJmpRel16 (d : Word) (s : State) : Res := .next (jumpRel16 d s)
def execJmpPtr (off seg : Word) (s : State) : Res := .next (farTo seg off s)
def execJmpEv (e : RM Reg16) (s : State) : Res :=
  let t := readLoc16 (loc16 e s) s
  .next (setIp t.1 t.2)
def execJmpMpFar (m : MemOp) (s : State) : Res :=
  let p := readFar m s
  .next (farTo p.1.2 p.1.1 p.2)

def execJoRel8 (d : Byte) (s : State) : Res := .next (jumpIf (Cond.o.holds s.flags) d s)
def execJnoRel8 (d : Byte) (s : State) : Res := .next (jumpIf (Cond.no.holds s.flags) d s)
def execJbRel8 (d : Byte) (s : State) : Res := .next (jumpIf (Cond.b.holds s.flags) d s)
def execJaeRel8 (d : Byte) (s : State) : Res := .next (jumpIf (Cond.ae.holds s.flags) d s)
def execJeRel8 (d : Byte) (s : State) : Res := .next (jumpIf (Cond.e.holds s.flags) d s)
def execJneRel8 (d : Byte) (s : State) : Res := .next (jumpIf (Cond.ne.holds s.flags) d s)
def execJbeRel8 (d : Byte) (s : State) : Res := .next (jumpIf (Cond.be.holds s.flags) d s)
def execJaRel8 (d : Byte) (s : State) : Res := .next (jumpIf (Cond.a.holds s.flags) d s)
def execJsRel8 (d : Byte) (s : State) : Res := .next (jumpIf (Cond.s.holds s.flags) d s)
def execJnsRel8 (d : Byte) (s : State) : Res := .next (jumpIf (Cond.ns.holds s.flags) d s)
def execJpRel8 (d : Byte) (s : State) : Res := .next (jumpIf (Cond.p.holds s.flags) d s)
def execJnpRel8 (d : Byte) (s : State) : Res := .next (jumpIf (Cond.np.holds s.flags) d s)
def execJlRel8 (d : Byte) (s : State) : Res := .next (jumpIf (Cond.l.holds s.flags) d s)
def execJgeRel8 (d : Byte) (s : State) : Res := .next (jumpIf (Cond.ge.holds s.flags) d s)
def execJleRel8 (d : Byte) (s : State) : Res := .next (jumpIf (Cond.le.holds s.flags) d s)
def execJgRel8 (d : Byte) (s : State) : Res := .next (jumpIf (Cond.g.holds s.flags) d s)

/-! ### Calls and returns (R410 to R417) -/

/-- The return offset is pushed, then IP goes to `t` (R410, R412). -/
def callNear (t : Word) (s : State) : State := setIp t (push16 s.ip s)
/-- CS is pushed, then IP, then CS and IP are written (R411, R413). -/
def callFar (cs ip : Word) (s : State) : State :=
  let s1 := push16 s.seg.cs s
  farTo cs ip (push16 s1.ip s1)
/-- `IP <- Pop16()` (R414). -/
def returnNear (s : State) : State := setIp (pop16 s).1 (pop16 s).2
/-- `IP <- Pop16(); CS <- Pop16()` (R416). -/
def returnFar (s : State) : State :=
  let newIp := pop16 s
  let newCs := pop16 newIp.2
  farTo newCs.1 newIp.1 newCs.2
/-- `SP <- (SP + iw) mod 2^16` (R415, R417). -/
def dropStack (v : Word) (s : State) : State := setReg16 .sp (s.gpr.sp + v) s

def execCallRel16 (d : Word) (s : State) : Res := .next (callNear (s.ip + d) s)
def execCallPtr (off seg : Word) (s : State) : Res := .next (callFar seg off s)
/-- The operand is read before the push (R412, 92 D49). -/
def execCallEv (e : RM Reg16) (s : State) : Res :=
  let t := readLoc16 (loc16 e s) s
  .next (callNear t.1 t.2)
/-- Both words are read before either push (R413, 92 D49). -/
def execCallMpFar (m : MemOp) (s : State) : Res :=
  let p := readFar m s
  .next (callFar p.1.2 p.1.1 p.2)
def execRet (s : State) : Res := .next (returnNear s)
def execRetIw (v : Word) (s : State) : Res := .next (dropStack v (returnNear s))
def execRetf (s : State) : Res := .next (returnFar s)
def execRetfIw (v : Word) (s : State) : Res := .next (dropStack v (returnFar s))

/-! ### Loops (R420 to R423) -/

/-- `CX <- CX - 1`, and the jump if CX is not 0 and `c` holds (R420 to R422). -/
def loopIf (c : Bool) (d : Byte) (s : State) : State :=
  let s1 := setReg16 .cx (s.gpr.cx - 1#16) s
  jumpIf (s1.gpr.cx != 0#16 && c) d s1

def execLoopRel8 (d : Byte) (s : State) : Res := .next (loopIf true d s)
def execLoopeRel8 (d : Byte) (s : State) : Res := .next (loopIf (flag .zero s) d s)
def execLoopneRel8 (d : Byte) (s : State) : Res := .next (loopIf (!flag .zero s) d s)
def execJcxzRel8 (d : Byte) (s : State) : Res := .next (jumpIf (s.gpr.cx == 0#16) d s)

/-! ### Software interrupts and IRET (R424 to R427) -/

def execInt3 (s : State) : Res := doInterrupt 3#8 s
def execIntIb (v : Byte) (s : State) : Res := doInterrupt v s
def execInto (s : State) : Res := if flag .overflow s then doInterrupt 4#8 s else .next s
def execIret (s : State) : Res := .next (interruptReturn s)

end Sys2Proof.Machine
end

