-- ==== Sys2Proof/Machine/DataTransfer.lean ====
section
/-! DEFINITION. The meanings of the data transfer rows (40_data_transfer.md): MOV, XCHG, NOP, PUSH, POP, LEA, LDS, LES,
LAHF, SAHF, PUSHF, POPF, XLAT, CBW, CWD, IN, OUT. -/

namespace Sys2Proof.Machine

/-! ### MOV (R201 to R206) -/

def execMovEbGb (e : RM Reg8) (g : Reg8) (s : State) : Res := .next (move8 (loc8 e s) (.reg g) s)
def execMovEvGv (e : RM Reg16) (g : Reg16) (s : State) : Res := .next (move16 (loc16 e s) (.reg g) s)
def execMovGbEb (g : Reg8) (e : RM Reg8) (s : State) : Res := .next (move8 (.reg g) (loc8 e s) s)
def execMovGvEv (g : Reg16) (e : RM Reg16) (s : State) : Res := .next (move16 (.reg g) (loc16 e s) s)
def execMovEwEs (e : RM Reg16) (s : State) : Res := .next (move16 (loc16 e s) (.sreg .es) s)
def execMovEwCs (e : RM Reg16) (s : State) : Res := .next (move16 (loc16 e s) (.sreg .cs) s)
def execMovEwSs (e : RM Reg16) (s : State) : Res := .next (move16 (loc16 e s) (.sreg .ss) s)
def execMovEwDs (e : RM Reg16) (s : State) : Res := .next (move16 (loc16 e s) (.sreg .ds) s)
def execMovEsEw (e : RM Reg16) (s : State) : Res := .next (move16 (.sreg .es) (loc16 e s) s)
def execMovSsEw (e : RM Reg16) (s : State) : Res := .next (move16 (.sreg .ss) (loc16 e s) s)
def execMovDsEw (e : RM Reg16) (s : State) : Res := .next (move16 (.sreg .ds) (loc16 e s) s)
/-- The direct address is an offset in DS or the override (R204). -/
def execMovAlOb (a : Word) (s : State) : Res := .next (move8 (.reg .al) (.mem (segFor .ds s) a) s)
def execMovAxOv (a : Word) (s : State) : Res := .next (move16 (.reg .ax) (.mem (segFor .ds s) a) s)
def execMovObAl (a : Word) (s : State) : Res := .next (move8 (.mem (segFor .ds s) a) (.reg .al) s)
def execMovOvAx (a : Word) (s : State) : Res := .next (move16 (.mem (segFor .ds s) a) (.reg .ax) s)
def execMovR8Ib (r : Reg8) (v : Byte) (s : State) : Res := .next (setReg8 r v s)
def execMovR16Iw (r : Reg16) (v : Word) (s : State) : Res := .next (setReg16 r v s)
def execMovEbIb (e : RM Reg8) (v : Byte) (s : State) : Res := .next (writeLoc8 (loc8 e s) v s)
def execMovEvIw (e : RM Reg16) (v : Word) (s : State) : Res := .next (writeLoc16 (loc16 e s) v s)

/-! ### XCHG and NOP (R211 to R213) -/

def execXchgAxR16 (r : Reg16) (s : State) : Res := .next (exchange16 (.reg .ax) (.reg r) s)
def execXchgEbGb (e : RM Reg8) (g : Reg8) (s : State) : Res := .next (exchange8 (loc8 e s) (.reg g) s)
def execXchgEvGv (e : RM Reg16) (g : Reg16) (s : State) : Res := .next (exchange16 (loc16 e s) (.reg g) s)
/-- NOP changes nothing but the IP, which the fetch has advanced (R213). -/
def execNop (s : State) : Res := .next s

/-! ### PUSH and POP (R214 to R219) -/

/-- PUSH SP pushes the value of SP after the decrement (R214, 92 D17). -/
def execPushR16 (r : Reg16) (s : State) : Res := .next (pushLoc (.reg r) s)
def execPushEs (s : State) : Res := .next (push16 s.seg.es s)
def execPushCs (s : State) : Res := .next (push16 s.seg.cs s)
def execPushSs (s : State) : Res := .next (push16 s.seg.ss s)
def execPushDs (s : State) : Res := .next (push16 s.seg.ds s)
/-- The operand is resolved at decode and its value read after the decrement (R216). -/
def execPushEv (e : RM Reg16) (s : State) : Res := .next (pushLoc (loc16 e s) s)
/-- POP SP leaves the popped word in SP (R217). -/
def execPopR16 (r : Reg16) (s : State) : Res := .next (popLoc (.reg r) s)
def execPopEs (s : State) : Res := .next (popLoc (.sreg .es) s)
def execPopSs (s : State) : Res := .next (popLoc (.sreg .ss) s)
def execPopDs (s : State) : Res := .next (popLoc (.sreg .ds) s)
/-- The operand is resolved at decode, before SP changes (R219). -/
def execPopEv (e : RM Reg16) (s : State) : Res := .next (popLoc (loc16 e s) s)

/-! ### LEA, LDS, LES (R220 to R222) -/

def execLeaGvM (g : Reg16) (m : MemOp) (s : State) : Res := .next (setReg16 g (eaOffset m s) s)
def execLdsGvMp (g : Reg16) (m : MemOp) (s : State) : Res :=
  let p := readFar m s
  .next (setSreg .ds p.1.2 (setReg16 g p.1.1 p.2))
def execLesGvMp (g : Reg16) (m : MemOp) (s : State) : Res :=
  let p := readFar m s
  .next (setSreg .es p.1.2 (setReg16 g p.1.1 p.2))

/-! ### Flags transfers (R224 to R229) -/

def execLahf (s : State) : Res := .next (setReg8 .ah (loByte s.flags) s)
/-- SAHF writes SF, ZF, AF, PF and CF from AH; every other bit of FLAGS is kept (R226, 92 D29). -/
def execSahf (s : State) : Res :=
  let ah := reg8 .ah s
  .next (setFlags
    (putFlag .sign (ah.getLsbD 7) (putFlag .zero (ah.getLsbD 6) (putFlag .aux (ah.getLsbD 4)
      (putFlag .parity (ah.getLsbD 2) (putFlag .carry (ah.getLsbD 0) s.flags))))) s)
def execPushf (s : State) : Res := .next (push16 s.flags s)
def execPopf (s : State) : Res := .next (storeFlags (pop16 s).1 (pop16 s).2)

/-! ### XLAT, CBW, CWD (R230, R238, R239) -/

/-- The table is in DS or the override (R230, 30_encoding.md R125). -/
def execXlat (s : State) : Res :=
  .next (move8 (.reg .al) (.mem (segFor .ds s) (s.gpr.bx + (reg8 .al s).setWidth 16)) s)
def execCbw (s : State) : Res := .next (setReg16 .ax (sext16 (reg8 .al s)) s)
def execCwd (s : State) : Res := .next (setReg16 .dx (if s.gpr.ax.msb then 0xFFFF#16 else 0x0000#16) s)

/-! ### IN and OUT (R232 to R235) -/

/-- `AL <- IoIn(p, 1)`. -/
def inByte (p : Word) (s : State) : State := setReg8 .al (ioIn8 p s).1 (ioIn8 p s).2
/-- `AX <- IoIn(p, 2)`. -/
def inWord (p : Word) (s : State) : State := setReg16 .ax (ioIn16 p s).1 (ioIn16 p s).2

def execInAlIb (v : Byte) (s : State) : Res := .next (inByte (v.setWidth 16) s)
def execInAxIb (v : Byte) (s : State) : Res := .next (inWord (v.setWidth 16) s)
def execInAlDx (s : State) : Res := .next (inByte s.gpr.dx s)
def execInAxDx (s : State) : Res := .next (inWord s.gpr.dx s)
def execOutIbAl (p : Byte) (s : State) : Res := .next (ioOut8 (p.setWidth 16) (reg8 .al s) s)
def execOutIbAx (p : Byte) (s : State) : Res := .next (ioOut16 (p.setWidth 16) s.gpr.ax s)
def execOutDxAl (s : State) : Res := .next (ioOut8 s.gpr.dx (reg8 .al s) s)
def execOutDxAx (s : State) : Res := .next (ioOut16 s.gpr.dx s.gpr.ax s)

end Sys2Proof.Machine
end

