-- ==== Sys2Proof/Machine/Illegal.lean ====
section
/-! DEFINITION. The meanings of the illegal rows (30_encoding.md R140, R141). A row that is illegal in both modes, or in
`V20` mode only, ends with `DebugBreak` in `I8088` mode (60_exceptions.md R524) and raises interrupt 6 in `V20` mode
(R522). A row of `I8088` mode alone (46_v20_extensions.md R470) ends with `DebugBreak`: its opcode is another row in `V20`
mode. -/

namespace Sys2Proof.Machine

def execIllegal0F (s : State) : Res := illegalEncoding s
def execIllegalI8088x60 (s : State) : Res := debugBreakStop s
def execIllegalI8088x61 (s : State) : Res := debugBreakStop s
def execIllegalI8088x62 (s : State) : Res := debugBreakStop s
def execIllegalI8088x68 (s : State) : Res := debugBreakStop s
def execIllegalI8088x69 (s : State) : Res := debugBreakStop s
def execIllegalI8088x6A (s : State) : Res := debugBreakStop s
def execIllegalI8088x6B (s : State) : Res := debugBreakStop s
def execIllegalI8088x6C (s : State) : Res := debugBreakStop s
def execIllegalI8088x6D (s : State) : Res := debugBreakStop s
def execIllegalI8088x6E (s : State) : Res := debugBreakStop s
def execIllegalI8088x6F (s : State) : Res := debugBreakStop s
def execIllegalI8088xC0 (s : State) : Res := debugBreakStop s
def execIllegalI8088xC1 (s : State) : Res := debugBreakStop s
def execIllegalI8088xC8 (s : State) : Res := debugBreakStop s
def execIllegalI8088xC9 (s : State) : Res := debugBreakStop s
def execIllegal63 (s : State) : Res := illegalEncoding s
def execIllegal64 (s : State) : Res := illegalEncoding s
def execIllegal65 (s : State) : Res := illegalEncoding s
def execIllegal66 (s : State) : Res := illegalEncoding s
def execIllegal67 (s : State) : Res := illegalEncoding s
def execIllegalD6 (s : State) : Res := illegalEncoding s
def execIllegalF1 (s : State) : Res := illegalEncoding s
def execIllegalC0r6 (s : State) : Res := illegalEncoding s
def execIllegalC1r6 (s : State) : Res := illegalEncoding s
def execIllegalD0r6 (s : State) : Res := illegalEncoding s
def execIllegalD1r6 (s : State) : Res := illegalEncoding s
def execIllegalD2r6 (s : State) : Res := illegalEncoding s
def execIllegalD3r6 (s : State) : Res := illegalEncoding s
def execIllegalF6r1 (s : State) : Res := illegalEncoding s
def execIllegalF7r1 (s : State) : Res := illegalEncoding s
def execIllegalFEr2 (s : State) : Res := illegalEncoding s
def execIllegalFEr3 (s : State) : Res := illegalEncoding s
def execIllegalFEr4 (s : State) : Res := illegalEncoding s
def execIllegalFEr5 (s : State) : Res := illegalEncoding s
def execIllegalFEr6 (s : State) : Res := illegalEncoding s
def execIllegalFEr7 (s : State) : Res := illegalEncoding s
def execIllegalFFr7 (s : State) : Res := illegalEncoding s
def execIllegal8Fr1 (s : State) : Res := illegalEncoding s
def execIllegal8Fr2 (s : State) : Res := illegalEncoding s
def execIllegal8Fr3 (s : State) : Res := illegalEncoding s
def execIllegal8Fr4 (s : State) : Res := illegalEncoding s
def execIllegal8Fr5 (s : State) : Res := illegalEncoding s
def execIllegal8Fr6 (s : State) : Res := illegalEncoding s
def execIllegal8Fr7 (s : State) : Res := illegalEncoding s
def execIllegalC6r1 (s : State) : Res := illegalEncoding s
def execIllegalC6r2 (s : State) : Res := illegalEncoding s
def execIllegalC6r3 (s : State) : Res := illegalEncoding s
def execIllegalC6r4 (s : State) : Res := illegalEncoding s
def execIllegalC6r5 (s : State) : Res := illegalEncoding s
def execIllegalC6r6 (s : State) : Res := illegalEncoding s
def execIllegalC6r7 (s : State) : Res := illegalEncoding s
def execIllegalC7r1 (s : State) : Res := illegalEncoding s
def execIllegalC7r2 (s : State) : Res := illegalEncoding s
def execIllegalC7r3 (s : State) : Res := illegalEncoding s
def execIllegalC7r4 (s : State) : Res := illegalEncoding s
def execIllegalC7r5 (s : State) : Res := illegalEncoding s
def execIllegalC7r6 (s : State) : Res := illegalEncoding s
def execIllegalC7r7 (s : State) : Res := illegalEncoding s
def execIllegal8Cr4 (s : State) : Res := illegalEncoding s
def execIllegal8Cr5 (s : State) : Res := illegalEncoding s
def execIllegal8Cr6 (s : State) : Res := illegalEncoding s
def execIllegal8Cr7 (s : State) : Res := illegalEncoding s
def execIllegal8Er1 (s : State) : Res := illegalEncoding s
def execIllegal8Er4 (s : State) : Res := illegalEncoding s
def execIllegal8Er5 (s : State) : Res := illegalEncoding s
def execIllegal8Er6 (s : State) : Res := illegalEncoding s
def execIllegal8Er7 (s : State) : Res := illegalEncoding s
def execIllegal8Dmod3 (s : State) : Res := illegalEncoding s
def execIllegalC4mod3 (s : State) : Res := illegalEncoding s
def execIllegalC5mod3 (s : State) : Res := illegalEncoding s
def execIllegal62mod3 (s : State) : Res := illegalEncoding s
def execIllegalFFr3mod3 (s : State) : Res := illegalEncoding s
def execIllegalFFr5mod3 (s : State) : Res := illegalEncoding s

end Sys2Proof.Machine
end

