-- ==== Sys2Proof/Machine/Processor.lean ====
section
/-! DEFINITION. The meanings of the processor control rows (45_processor_control.md): flag control, HLT, WAIT, ESC, and
of the prefix rows, which change the decode state that the rest of the step reads (30_encoding.md R111). -/

namespace Sys2Proof.Machine

/-! ### Flag control (R440 to R446) -/

def execClc (s : State) : Res := .next (setFlag .carry false s)
def execStc (s : State) : Res := .next (setFlag .carry true s)
def execCmc (s : State) : Res := .next (setFlag .carry (!flag .carry s) s)
def execCli (s : State) : Res := .next (setFlag .interrupt false s)
def execSti (s : State) : Res := .next (setFlag .interrupt true s)
def execCld (s : State) : Res := .next (setFlag .direction false s)
def execStd (s : State) : Res := .next (setFlag .direction true s)

/-! ### Halt, WAIT, ESC (R447, R455, R456) -/

/-- HLT leaves IP on the HLT byte, and the step ends with `Halt` after its tick phase (R447). -/
def execHlt (s : State) : Res := .next { setIp (s.ip - 1#16) s with signal := .halt }
/-- WAIT does nothing (R455, 92 D28). -/
def execWait (s : State) : Res := .next s
/-- ESC fetches its ModRM byte and displacement, which the decoder has done, and accesses nothing (R456, 92 D28). -/
def execEsc (_x _g : BitVec 3) (_e : RM Reg16) (s : State) : Res := .next s

/-! ### The prefixes (30_encoding.md R111, R457) -/

/-- The last segment prefix wins (92 D10). -/
def overrideWith (r : Sreg) (s : State) : State := { s with dec := { s.dec with segOverride := some r } }
/-- The last REP-class prefix wins (92 D10). -/
def repeatWith (r : Rep) (s : State) : State := { s with dec := { s.dec with rep := r } }

def execPrefixEs (s : State) : Res := .next (overrideWith .es s)
def execPrefixCs (s : State) : Res := .next (overrideWith .cs s)
def execPrefixSs (s : State) : Res := .next (overrideWith .ss s)
def execPrefixDs (s : State) : Res := .next (overrideWith .ds s)
/-- LOCK has no effect (R457). -/
def execPrefixLock (s : State) : Res := .next s
def execPrefixRepne (s : State) : Res := .next (repeatWith .repne s)
def execPrefixRep (s : State) : Res := .next (repeatWith .repe s)

end Sys2Proof.Machine
end

