-- ==== Sys2Proof/Machine/Shifts.lean ====
section
/-! DEFINITION. The meanings of TEST, NOT and group 2 (42_logic_shift.md): the shifts and rotates by 1, by CL, and in `V20`
mode by an immediate (46_v20_extensions.md R479). AND, OR and XOR stand with the other two-operand rows in Arithmetic. -/

namespace Sys2Proof.Machine

/-! ### TEST and NOT (R324, R325) -/

def execTestEbGb (e : RM Reg8) (g : Reg8) (s : State) : Res :=
  let a := readLoc8 (loc8 e s) s
  .next (testWith a.1 (reg8 g a.2) a.2)
def execTestEvGv (e : RM Reg16) (g : Reg16) (s : State) : Res :=
  let a := readLoc16 (loc16 e s) s
  .next (testWith a.1 (reg16 g a.2) a.2)
def execTestAlIb (v : Byte) (s : State) : Res := .next (testWith (reg8 .al s) v s)
def execTestAxIw (v : Word) (s : State) : Res := .next (testWith s.gpr.ax v s)
def execTestEbIb (e : RM Reg8) (v : Byte) (s : State) : Res :=
  let a := readLoc8 (loc8 e s) s
  .next (testWith a.1 v a.2)
def execTestEvIw (e : RM Reg16) (v : Word) (s : State) : Res :=
  let a := readLoc16 (loc16 e s) s
  .next (testWith a.1 v a.2)
/-- NOT writes no flag (R325). -/
def execNotEb (e : RM Reg8) (s : State) : Res := .next (modify8 (fun a fl => (~~~a, fl)) (loc8 e s) s)
def execNotEv (e : RM Reg16) (s : State) : Res := .next (modify16 (fun a fl => (~~~a, fl)) (loc16 e s) s)

/-! ### ROL (R332, R330, R331, R339) -/

def execRolEb1 (e : RM Reg8) (s : State) : Res := .next (shift8 .rol (loc8 e s) 1#8 s)
def execRolEv1 (e : RM Reg16) (s : State) : Res := .next (shift16 .rol (loc16 e s) 1#8 s)
def execRolEbCl (e : RM Reg8) (s : State) : Res := .next (shift8 .rol (loc8 e s) (reg8 .cl s) s)
def execRolEvCl (e : RM Reg16) (s : State) : Res := .next (shift16 .rol (loc16 e s) (reg8 .cl s) s)
def execRolEbIb (e : RM Reg8) (v : Byte) (s : State) : Res := v20Only s fun s => .next (shift8 .rol (loc8 e s) v s)
def execRolEvIb (e : RM Reg16) (v : Byte) (s : State) : Res := v20Only s fun s => .next (shift16 .rol (loc16 e s) v s)

/-! ### ROR (R333, R330, R331, R339) -/

def execRorEb1 (e : RM Reg8) (s : State) : Res := .next (shift8 .ror (loc8 e s) 1#8 s)
def execRorEv1 (e : RM Reg16) (s : State) : Res := .next (shift16 .ror (loc16 e s) 1#8 s)
def execRorEbCl (e : RM Reg8) (s : State) : Res := .next (shift8 .ror (loc8 e s) (reg8 .cl s) s)
def execRorEvCl (e : RM Reg16) (s : State) : Res := .next (shift16 .ror (loc16 e s) (reg8 .cl s) s)
def execRorEbIb (e : RM Reg8) (v : Byte) (s : State) : Res := v20Only s fun s => .next (shift8 .ror (loc8 e s) v s)
def execRorEvIb (e : RM Reg16) (v : Byte) (s : State) : Res := v20Only s fun s => .next (shift16 .ror (loc16 e s) v s)

/-! ### RCL (R334, R330, R331, R339) -/

def execRclEb1 (e : RM Reg8) (s : State) : Res := .next (shift8 .rcl (loc8 e s) 1#8 s)
def execRclEv1 (e : RM Reg16) (s : State) : Res := .next (shift16 .rcl (loc16 e s) 1#8 s)
def execRclEbCl (e : RM Reg8) (s : State) : Res := .next (shift8 .rcl (loc8 e s) (reg8 .cl s) s)
def execRclEvCl (e : RM Reg16) (s : State) : Res := .next (shift16 .rcl (loc16 e s) (reg8 .cl s) s)
def execRclEbIb (e : RM Reg8) (v : Byte) (s : State) : Res := v20Only s fun s => .next (shift8 .rcl (loc8 e s) v s)
def execRclEvIb (e : RM Reg16) (v : Byte) (s : State) : Res := v20Only s fun s => .next (shift16 .rcl (loc16 e s) v s)

/-! ### RCR (R335, R330, R331, R339) -/

def execRcrEb1 (e : RM Reg8) (s : State) : Res := .next (shift8 .rcr (loc8 e s) 1#8 s)
def execRcrEv1 (e : RM Reg16) (s : State) : Res := .next (shift16 .rcr (loc16 e s) 1#8 s)
def execRcrEbCl (e : RM Reg8) (s : State) : Res := .next (shift8 .rcr (loc8 e s) (reg8 .cl s) s)
def execRcrEvCl (e : RM Reg16) (s : State) : Res := .next (shift16 .rcr (loc16 e s) (reg8 .cl s) s)
def execRcrEbIb (e : RM Reg8) (v : Byte) (s : State) : Res := v20Only s fun s => .next (shift8 .rcr (loc8 e s) v s)
def execRcrEvIb (e : RM Reg16) (v : Byte) (s : State) : Res := v20Only s fun s => .next (shift16 .rcr (loc16 e s) v s)

/-! ### SHL (R336, R330, R331, R339) -/

def execShlEb1 (e : RM Reg8) (s : State) : Res := .next (shift8 .shl (loc8 e s) 1#8 s)
def execShlEv1 (e : RM Reg16) (s : State) : Res := .next (shift16 .shl (loc16 e s) 1#8 s)
def execShlEbCl (e : RM Reg8) (s : State) : Res := .next (shift8 .shl (loc8 e s) (reg8 .cl s) s)
def execShlEvCl (e : RM Reg16) (s : State) : Res := .next (shift16 .shl (loc16 e s) (reg8 .cl s) s)
def execShlEbIb (e : RM Reg8) (v : Byte) (s : State) : Res := v20Only s fun s => .next (shift8 .shl (loc8 e s) v s)
def execShlEvIb (e : RM Reg16) (v : Byte) (s : State) : Res := v20Only s fun s => .next (shift16 .shl (loc16 e s) v s)

/-! ### SHR (R337, R330, R331, R339) -/

def execShrEb1 (e : RM Reg8) (s : State) : Res := .next (shift8 .shr (loc8 e s) 1#8 s)
def execShrEv1 (e : RM Reg16) (s : State) : Res := .next (shift16 .shr (loc16 e s) 1#8 s)
def execShrEbCl (e : RM Reg8) (s : State) : Res := .next (shift8 .shr (loc8 e s) (reg8 .cl s) s)
def execShrEvCl (e : RM Reg16) (s : State) : Res := .next (shift16 .shr (loc16 e s) (reg8 .cl s) s)
def execShrEbIb (e : RM Reg8) (v : Byte) (s : State) : Res := v20Only s fun s => .next (shift8 .shr (loc8 e s) v s)
def execShrEvIb (e : RM Reg16) (v : Byte) (s : State) : Res := v20Only s fun s => .next (shift16 .shr (loc16 e s) v s)

/-! ### SAR (R338, R330, R331, R339) -/

def execSarEb1 (e : RM Reg8) (s : State) : Res := .next (shift8 .sar (loc8 e s) 1#8 s)
def execSarEv1 (e : RM Reg16) (s : State) : Res := .next (shift16 .sar (loc16 e s) 1#8 s)
def execSarEbCl (e : RM Reg8) (s : State) : Res := .next (shift8 .sar (loc8 e s) (reg8 .cl s) s)
def execSarEvCl (e : RM Reg16) (s : State) : Res := .next (shift16 .sar (loc16 e s) (reg8 .cl s) s)
def execSarEbIb (e : RM Reg8) (v : Byte) (s : State) : Res := v20Only s fun s => .next (shift8 .sar (loc8 e s) v s)
def execSarEvIb (e : RM Reg16) (v : Byte) (s : State) : Res := v20Only s fun s => .next (shift16 .sar (loc16 e s) v s)

end Sys2Proof.Machine
end

