-- ==== Sys2Proof/Machine/StringOps.lean ====
section
/-! DEFINITION. The string primitives and the REP loop (43_string.md), with the primitives INS and OUTS of the V20
(46_v20_extensions.md R477, R478), which the same loop repeats. -/

namespace Sys2Proof.Machine

/-! ### The primitives, once -/

/-- `delta`: plus or minus the operand size `n` by DF (43_string.md R360). -/
def strDelta (n : Word) (s : State) : Word := if flag .direction s then -n else n

/-- `SI <- (SI + delta) mod 2^16` (43_string.md R360). -/
def stepSi (n : Word) (s : State) : State := setReg16 .si (s.gpr.si + strDelta n s) s

/-- `DI <- (DI + delta) mod 2^16` (43_string.md R360). -/
def stepDi (n : Word) (s : State) : State := setReg16 .di (s.gpr.di + strDelta n s) s

/-- The source operand is at `src_seg:SI` (43_string.md R366). -/
def srcLoc8 (s : State) : Loc8 := .mem (segFor .ds s) s.gpr.si
def srcLoc16 (s : State) : Loc16 := .mem (segFor .ds s) s.gpr.si

/-- The destination operand is at `ES:DI`, which no prefix changes (43_string.md R366). -/
def dstLoc8 (s : State) : Loc8 := .mem s.seg.es s.gpr.di
def dstLoc16 (s : State) : Loc16 := .mem s.seg.es s.gpr.di

/-- MOVS (43_string.md R361). -/
def movs8 (s : State) : State := stepDi 1#16 (stepSi 1#16 (move8 (dstLoc8 s) (srcLoc8 s) s))
def movs16 (s : State) : State := stepDi 2#16 (stepSi 2#16 (move16 (dstLoc16 s) (srcLoc16 s) s))

/-- CMPS: source minus destination (43_string.md R362). -/
def cmps8 (s : State) : State := stepDi 1#16 (stepSi 1#16 (alu8 .cmp (srcLoc8 s) (dstLoc8 s) s))
def cmps16 (s : State) : State := stepDi 2#16 (stepSi 2#16 (alu16 .cmp (srcLoc16 s) (dstLoc16 s) s))

/-- SCAS: accumulator minus destination (43_string.md R363). -/
def scas8 (s : State) : State := stepDi 1#16 (alu8 .cmp (.reg .al) (dstLoc8 s) s)
def scas16 (s : State) : State := stepDi 2#16 (alu16 .cmp (.reg .ax) (dstLoc16 s) s)

/-- LODS (43_string.md R364). -/
def lods8 (s : State) : State := stepSi 1#16 (move8 (.reg .al) (srcLoc8 s) s)
def lods16 (s : State) : State := stepSi 2#16 (move16 (.reg .ax) (srcLoc16 s) s)

/-- STOS (43_string.md R365). -/
def stos8 (s : State) : State := stepDi 1#16 (move8 (dstLoc8 s) (.reg .al) s)
def stos16 (s : State) : State := stepDi 2#16 (move16 (dstLoc16 s) (.reg .ax) s)

/-- INS: port DX to `[ES:DI]` (46_v20_extensions.md R477). -/
def ins8 (s : State) : State := stepDi 1#16 (writeLoc8 (dstLoc8 s) (ioIn8 s.gpr.dx s).1 (ioIn8 s.gpr.dx s).2)
def ins16 (s : State) : State := stepDi 2#16 (writeLoc16 (dstLoc16 s) (ioIn16 s.gpr.dx s).1 (ioIn16 s.gpr.dx s).2)

/-- OUTS: `[src_seg:SI]` to port DX (46_v20_extensions.md R478). -/
def outs8 (s : State) : State :=
  let v := readLoc8 (srcLoc8 s) s
  stepSi 1#16 (ioOut8 s.gpr.dx v.1 v.2)
def outs16 (s : State) : State :=
  let v := readLoc16 (srcLoc16 s) s
  stepSi 2#16 (ioOut16 s.gpr.dx v.1 v.2)

/-! ### The REP loop (R370 to R374) -/

/-- `CX <- (CX - 1) mod 2^16`. -/
def decCx (s : State) : State := setReg16 .cx (s.gpr.cx - 1#16) s

/-- The early exit of a compare or scan primitive: REPNE with ZF = 1, or REPE with ZF = 0 (43_string.md R371). -/
def repExit (s : State) : Bool :=
  match s.dec.rep with
  | .off => false
  | .repne => flag .zero s
  | .repe => !flag .zero s

/-- `k` more iterations, `k` the value of CX (43_string.md R370): IP goes back to the primitive at `prim` and its opcode
byte is fetched again; a changed byte is refused (R372); the primitive runs once, CX is decremented, and a compare or
scan primitive (`scan`) may leave the loop (R371). -/
def repLoop (opcode : Byte) (scan : Bool) (once : State → State) (prim : Word) : Nat → State → Res
  | 0, s => .next s
  | k + 1, s =>
    let f := fetch8 (setIp prim s)
    if f.1 = opcode then
      let s1 := decCx (once f.2)
      if scan && repExit s1 then .next s1 else repLoop opcode scan once prim k s1
    else .refused (.repByteChanged f.2)

/-- A repeatable primitive: once without a REP-class prefix, the REP loop with one (43_string.md R370; 60_exceptions.md
R502 items 6 and 7). The primitive's opcode byte is at `IP - 1`. -/
def stringInstr (opcode : Byte) (scan : Bool) (once : State → State) (s : State) : Res :=
  match s.dec.rep with
  | .off => .next (once s)
  | .repne => repLoop opcode scan once (s.ip - 1#16) s.gpr.cx.toNat s
  | .repe => repLoop opcode scan once (s.ip - 1#16) s.gpr.cx.toNat s

/-! ### The rows (R361 to R365, R369) -/

def execMovsb (s : State) : Res := stringInstr 0xA4#8 false movs8 s
def execMovsw (s : State) : Res := stringInstr 0xA5#8 false movs16 s
def execCmpsb (s : State) : Res := stringInstr 0xA6#8 true cmps8 s
def execCmpsw (s : State) : Res := stringInstr 0xA7#8 true cmps16 s
def execStosb (s : State) : Res := stringInstr 0xAA#8 false stos8 s
def execStosw (s : State) : Res := stringInstr 0xAB#8 false stos16 s
def execLodsb (s : State) : Res := stringInstr 0xAC#8 false lods8 s
def execLodsw (s : State) : Res := stringInstr 0xAD#8 false lods16 s
def execScasb (s : State) : Res := stringInstr 0xAE#8 true scas8 s
def execScasw (s : State) : Res := stringInstr 0xAF#8 true scas16 s
def execInsb (s : State) : Res := v20Only s (stringInstr 0x6C#8 false ins8)
def execInsw (s : State) : Res := v20Only s (stringInstr 0x6D#8 false ins16)
def execOutsb (s : State) : Res := v20Only s (stringInstr 0x6E#8 false outs8)
def execOutsw (s : State) : Res := v20Only s (stringInstr 0x6F#8 false outs16)

end Sys2Proof.Machine
end

