-- ==== Sys2Proof/Machine/V20.lean ====
section
/-! DEFINITION. The meanings of the V20 rows (46_v20_extensions.md) but INS and OUTS (StringOps) and the shifts by an
immediate (Shifts): PUSHA, POPA, PUSH immediate, IMUL with an immediate, BOUND, ENTER, LEAVE. In `I8088` mode each is an
illegal encoding (R470). -/

namespace Sys2Proof.Machine

/-- PUSHA: the SP pushed is the one before the first push (R471). -/
def pushAll (s : State) : State :=
  let t := s.gpr.sp
  let s := push16 s.gpr.ax s
  let s := push16 s.gpr.cx s
  let s := push16 s.gpr.dx s
  let s := push16 s.gpr.bx s
  let s := push16 t s
  let s := push16 s.gpr.bp s
  let s := push16 s.gpr.si s
  push16 s.gpr.di s

/-- POPA: the saved SP word is read and discarded (R472). -/
def popAll (s : State) : State :=
  let s := popLoc (.reg .di) s
  let s := popLoc (.reg .si) s
  let s := popLoc (.reg .bp) s
  let s := (pop16 s).2
  let s := popLoc (.reg .bx) s
  let s := popLoc (.reg .dx) s
  let s := popLoc (.reg .cx) s
  popLoc (.reg .ax) s

/-- `repeat k times: BP <- BP - 2; Push16(MemRead(SS:BP, 2))` (R480). -/
def enterCopies : Nat → State → State
  | 0, s => s
  | k + 1, s =>
    let s1 := setReg16 .bp (s.gpr.bp - 2#16) s
    let v := memRead16 s1.seg.ss s1.gpr.bp s1
    enterCopies k (push16 v.1 v.2)

/-- ENTER with the level taken modulo 32 (R480, 92 D36). -/
def enterFrame (size : Word) (level : Byte) (s : State) : State :=
  let n := (level &&& 0x1F#8).toNat
  let s1 := push16 s.gpr.bp s
  let frame := s1.gpr.sp
  let s2 := if n = 0 then s1 else push16 frame (enterCopies (n - 1) s1)
  let s3 := setReg16 .bp frame s2
  setReg16 .sp (s3.gpr.sp - size) s3

/-- LEAVE: `SP <- BP; BP <- Pop16()` (R481). -/
def leaveFrame (s : State) : State := popLoc (.reg .bp) (setReg16 .sp s.gpr.bp s)

/-- `G <- trunc_16(p)`; CF and OF when the product does not fit in 16 signed bits; SF ZF AF PF undefined (R475). -/
def imulImm (g : Reg16) (e : RM Reg16) (k : Word) (s : State) : State :=
  let a := readLoc16 (loc16 e s) s
  let p := a.1.toInt * k.toInt
  let big := decide (p ≠ (BitVec.ofInt 16 p).toInt)
  undefFlags [.sign, .zero, .aux, .parity]
    (setFlag .overflow big (setFlag .carry big (setReg16 g (BitVec.ofInt 16 p) a.2)))

/-- BOUND: interrupt 5 when the index is out of the inclusive bounds (R476). -/
def boundCheck (g : Reg16) (m : MemOp) (s : State) : Res :=
  let b := readFar m s
  let i := (reg16 g b.2).toInt
  if i < b.1.1.toInt ∨ i > b.1.2.toInt then boundFault b.2 else .next b.2

def execPusha (s : State) : Res := v20Only s fun s => .next (pushAll s)
def execPopa (s : State) : Res := v20Only s fun s => .next (popAll s)
def execPushIw (v : Word) (s : State) : Res := v20Only s fun s => .next (push16 v s)
def execPushIbS (v : Byte) (s : State) : Res := v20Only s fun s => .next (push16 (sext16 v) s)
def execImulGvEvIw (g : Reg16) (e : RM Reg16) (v : Word) (s : State) : Res :=
  v20Only s fun s => .next (imulImm g e v s)
def execImulGvEvIbS (g : Reg16) (e : RM Reg16) (v : Byte) (s : State) : Res :=
  v20Only s fun s => .next (imulImm g e (sext16 v) s)
def execBoundGvMa (g : Reg16) (m : MemOp) (s : State) : Res := v20Only s (boundCheck g m)
def execEnterIwIb (size : Word) (level : Byte) (s : State) : Res :=
  v20Only s fun s => .next (enterFrame size level s)
def execLeave (s : State) : Res := v20Only s fun s => .next (leaveFrame s)

end Sys2Proof.Machine
end

