-- ==== Sys2Proof/Machine/Dispatch.lean ====
section
/-! DEFINITION. The dispatch multiplexer (30_encoding.md R112, R131): one arm for each row of the opcode table, in the order
of `Instr`. -/

namespace Sys2Proof.Machine

def exec (i : Instr) (s : State) : Host.Outcome State Fault Refusal :=
  match i with
  | .addEbGb e g => Sys2Proof.Machine.execAddEbGb e g s
  | .addEvGv e g => Sys2Proof.Machine.execAddEvGv e g s
  | .addGbEb g e => Sys2Proof.Machine.execAddGbEb g e s
  | .addGvEv g e => Sys2Proof.Machine.execAddGvEv g e s
  | .addAlIb v => Sys2Proof.Machine.execAddAlIb v s
  | .addAxIw v => Sys2Proof.Machine.execAddAxIw v s
  | .orEbGb e g => Sys2Proof.Machine.execOrEbGb e g s
  | .orEvGv e g => Sys2Proof.Machine.execOrEvGv e g s
  | .orGbEb g e => Sys2Proof.Machine.execOrGbEb g e s
  | .orGvEv g e => Sys2Proof.Machine.execOrGvEv g e s
  | .orAlIb v => Sys2Proof.Machine.execOrAlIb v s
  | .orAxIw v => Sys2Proof.Machine.execOrAxIw v s
  | .adcEbGb e g => Sys2Proof.Machine.execAdcEbGb e g s
  | .adcEvGv e g => Sys2Proof.Machine.execAdcEvGv e g s
  | .adcGbEb g e => Sys2Proof.Machine.execAdcGbEb g e s
  | .adcGvEv g e => Sys2Proof.Machine.execAdcGvEv g e s
  | .adcAlIb v => Sys2Proof.Machine.execAdcAlIb v s
  | .adcAxIw v => Sys2Proof.Machine.execAdcAxIw v s
  | .sbbEbGb e g => Sys2Proof.Machine.execSbbEbGb e g s
  | .sbbEvGv e g => Sys2Proof.Machine.execSbbEvGv e g s
  | .sbbGbEb g e => Sys2Proof.Machine.execSbbGbEb g e s
  | .sbbGvEv g e => Sys2Proof.Machine.execSbbGvEv g e s
  | .sbbAlIb v => Sys2Proof.Machine.execSbbAlIb v s
  | .sbbAxIw v => Sys2Proof.Machine.execSbbAxIw v s
  | .andEbGb e g => Sys2Proof.Machine.execAndEbGb e g s
  | .andEvGv e g => Sys2Proof.Machine.execAndEvGv e g s
  | .andGbEb g e => Sys2Proof.Machine.execAndGbEb g e s
  | .andGvEv g e => Sys2Proof.Machine.execAndGvEv g e s
  | .andAlIb v => Sys2Proof.Machine.execAndAlIb v s
  | .andAxIw v => Sys2Proof.Machine.execAndAxIw v s
  | .subEbGb e g => Sys2Proof.Machine.execSubEbGb e g s
  | .subEvGv e g => Sys2Proof.Machine.execSubEvGv e g s
  | .subGbEb g e => Sys2Proof.Machine.execSubGbEb g e s
  | .subGvEv g e => Sys2Proof.Machine.execSubGvEv g e s
  | .subAlIb v => Sys2Proof.Machine.execSubAlIb v s
  | .subAxIw v => Sys2Proof.Machine.execSubAxIw v s
  | .xorEbGb e g => Sys2Proof.Machine.execXorEbGb e g s
  | .xorEvGv e g => Sys2Proof.Machine.execXorEvGv e g s
  | .xorGbEb g e => Sys2Proof.Machine.execXorGbEb g e s
  | .xorGvEv g e => Sys2Proof.Machine.execXorGvEv g e s
  | .xorAlIb v => Sys2Proof.Machine.execXorAlIb v s
  | .xorAxIw v => Sys2Proof.Machine.execXorAxIw v s
  | .cmpEbGb e g => Sys2Proof.Machine.execCmpEbGb e g s
  | .cmpEvGv e g => Sys2Proof.Machine.execCmpEvGv e g s
  | .cmpGbEb g e => Sys2Proof.Machine.execCmpGbEb g e s
  | .cmpGvEv g e => Sys2Proof.Machine.execCmpGvEv g e s
  | .cmpAlIb v => Sys2Proof.Machine.execCmpAlIb v s
  | .cmpAxIw v => Sys2Proof.Machine.execCmpAxIw v s
  | .incR16 r => Sys2Proof.Machine.execIncR16 r s
  | .decR16 r => Sys2Proof.Machine.execDecR16 r s
  | .pushR16 r => Sys2Proof.Machine.execPushR16 r s
  | .popR16 r => Sys2Proof.Machine.execPopR16 r s
  | .boundGvMa g m => Sys2Proof.Machine.execBoundGvMa g m s
  | .pushIw v => Sys2Proof.Machine.execPushIw v s
  | .imulGvEvIw g e v => Sys2Proof.Machine.execImulGvEvIw g e v s
  | .pushIbS v => Sys2Proof.Machine.execPushIbS v s
  | .imulGvEvIbS g e v => Sys2Proof.Machine.execImulGvEvIbS g e v s
  | .joRel8 d => Sys2Proof.Machine.execJoRel8 d s
  | .jnoRel8 d => Sys2Proof.Machine.execJnoRel8 d s
  | .jbRel8 d => Sys2Proof.Machine.execJbRel8 d s
  | .jaeRel8 d => Sys2Proof.Machine.execJaeRel8 d s
  | .jeRel8 d => Sys2Proof.Machine.execJeRel8 d s
  | .jneRel8 d => Sys2Proof.Machine.execJneRel8 d s
  | .jbeRel8 d => Sys2Proof.Machine.execJbeRel8 d s
  | .jaRel8 d => Sys2Proof.Machine.execJaRel8 d s
  | .jsRel8 d => Sys2Proof.Machine.execJsRel8 d s
  | .jnsRel8 d => Sys2Proof.Machine.execJnsRel8 d s
  | .jpRel8 d => Sys2Proof.Machine.execJpRel8 d s
  | .jnpRel8 d => Sys2Proof.Machine.execJnpRel8 d s
  | .jlRel8 d => Sys2Proof.Machine.execJlRel8 d s
  | .jgeRel8 d => Sys2Proof.Machine.execJgeRel8 d s
  | .jleRel8 d => Sys2Proof.Machine.execJleRel8 d s
  | .jgRel8 d => Sys2Proof.Machine.execJgRel8 d s
  | .addEbIb e v => Sys2Proof.Machine.execAddEbIb e v s
  | .orEbIb e v => Sys2Proof.Machine.execOrEbIb e v s
  | .adcEbIb e v => Sys2Proof.Machine.execAdcEbIb e v s
  | .sbbEbIb e v => Sys2Proof.Machine.execSbbEbIb e v s
  | .andEbIb e v => Sys2Proof.Machine.execAndEbIb e v s
  | .subEbIb e v => Sys2Proof.Machine.execSubEbIb e v s
  | .xorEbIb e v => Sys2Proof.Machine.execXorEbIb e v s
  | .cmpEbIb e v => Sys2Proof.Machine.execCmpEbIb e v s
  | .addEvIw e v => Sys2Proof.Machine.execAddEvIw e v s
  | .orEvIw e v => Sys2Proof.Machine.execOrEvIw e v s
  | .adcEvIw e v => Sys2Proof.Machine.execAdcEvIw e v s
  | .sbbEvIw e v => Sys2Proof.Machine.execSbbEvIw e v s
  | .andEvIw e v => Sys2Proof.Machine.execAndEvIw e v s
  | .subEvIw e v => Sys2Proof.Machine.execSubEvIw e v s
  | .xorEvIw e v => Sys2Proof.Machine.execXorEvIw e v s
  | .cmpEvIw e v => Sys2Proof.Machine.execCmpEvIw e v s
  | .addEbIb82 e v => Sys2Proof.Machine.execAddEbIb82 e v s
  | .orEbIb82 e v => Sys2Proof.Machine.execOrEbIb82 e v s
  | .adcEbIb82 e v => Sys2Proof.Machine.execAdcEbIb82 e v s
  | .sbbEbIb82 e v => Sys2Proof.Machine.execSbbEbIb82 e v s
  | .andEbIb82 e v => Sys2Proof.Machine.execAndEbIb82 e v s
  | .subEbIb82 e v => Sys2Proof.Machine.execSubEbIb82 e v s
  | .xorEbIb82 e v => Sys2Proof.Machine.execXorEbIb82 e v s
  | .cmpEbIb82 e v => Sys2Proof.Machine.execCmpEbIb82 e v s
  | .addEvIbS e v => Sys2Proof.Machine.execAddEvIbS e v s
  | .orEvIbS e v => Sys2Proof.Machine.execOrEvIbS e v s
  | .adcEvIbS e v => Sys2Proof.Machine.execAdcEvIbS e v s
  | .sbbEvIbS e v => Sys2Proof.Machine.execSbbEvIbS e v s
  | .andEvIbS e v => Sys2Proof.Machine.execAndEvIbS e v s
  | .subEvIbS e v => Sys2Proof.Machine.execSubEvIbS e v s
  | .xorEvIbS e v => Sys2Proof.Machine.execXorEvIbS e v s
  | .cmpEvIbS e v => Sys2Proof.Machine.execCmpEvIbS e v s
  | .testEbGb e g => Sys2Proof.Machine.execTestEbGb e g s
  | .testEvGv e g => Sys2Proof.Machine.execTestEvGv e g s
  | .xchgEbGb e g => Sys2Proof.Machine.execXchgEbGb e g s
  | .xchgEvGv e g => Sys2Proof.Machine.execXchgEvGv e g s
  | .movEbGb e g => Sys2Proof.Machine.execMovEbGb e g s
  | .movEvGv e g => Sys2Proof.Machine.execMovEvGv e g s
  | .movGbEb g e => Sys2Proof.Machine.execMovGbEb g e s
  | .movGvEv g e => Sys2Proof.Machine.execMovGvEv g e s
  | .movEwEs e => Sys2Proof.Machine.execMovEwEs e s
  | .movEwCs e => Sys2Proof.Machine.execMovEwCs e s
  | .movEwSs e => Sys2Proof.Machine.execMovEwSs e s
  | .movEwDs e => Sys2Proof.Machine.execMovEwDs e s
  | .leaGvM g m => Sys2Proof.Machine.execLeaGvM g m s
  | .movEsEw e => Sys2Proof.Machine.execMovEsEw e s
  | .movSsEw e => Sys2Proof.Machine.execMovSsEw e s
  | .movDsEw e => Sys2Proof.Machine.execMovDsEw e s
  | .popEv e => Sys2Proof.Machine.execPopEv e s
  | .xchgAxR16 r => Sys2Proof.Machine.execXchgAxR16 r s
  | .callPtr off seg => Sys2Proof.Machine.execCallPtr off seg s
  | .movAlOb a => Sys2Proof.Machine.execMovAlOb a s
  | .movAxOv a => Sys2Proof.Machine.execMovAxOv a s
  | .movObAl a => Sys2Proof.Machine.execMovObAl a s
  | .movOvAx a => Sys2Proof.Machine.execMovOvAx a s
  | .testAlIb v => Sys2Proof.Machine.execTestAlIb v s
  | .testAxIw v => Sys2Proof.Machine.execTestAxIw v s
  | .movR8Ib r v => Sys2Proof.Machine.execMovR8Ib r v s
  | .movR16Iw r v => Sys2Proof.Machine.execMovR16Iw r v s
  | .rolEbIb e v => Sys2Proof.Machine.execRolEbIb e v s
  | .rorEbIb e v => Sys2Proof.Machine.execRorEbIb e v s
  | .rclEbIb e v => Sys2Proof.Machine.execRclEbIb e v s
  | .rcrEbIb e v => Sys2Proof.Machine.execRcrEbIb e v s
  | .shlEbIb e v => Sys2Proof.Machine.execShlEbIb e v s
  | .shrEbIb e v => Sys2Proof.Machine.execShrEbIb e v s
  | .sarEbIb e v => Sys2Proof.Machine.execSarEbIb e v s
  | .rolEvIb e v => Sys2Proof.Machine.execRolEvIb e v s
  | .rorEvIb e v => Sys2Proof.Machine.execRorEvIb e v s
  | .rclEvIb e v => Sys2Proof.Machine.execRclEvIb e v s
  | .rcrEvIb e v => Sys2Proof.Machine.execRcrEvIb e v s
  | .shlEvIb e v => Sys2Proof.Machine.execShlEvIb e v s
  | .shrEvIb e v => Sys2Proof.Machine.execShrEvIb e v s
  | .sarEvIb e v => Sys2Proof.Machine.execSarEvIb e v s
  | .rolEb1 e => Sys2Proof.Machine.execRolEb1 e s
  | .rorEb1 e => Sys2Proof.Machine.execRorEb1 e s
  | .rclEb1 e => Sys2Proof.Machine.execRclEb1 e s
  | .rcrEb1 e => Sys2Proof.Machine.execRcrEb1 e s
  | .shlEb1 e => Sys2Proof.Machine.execShlEb1 e s
  | .shrEb1 e => Sys2Proof.Machine.execShrEb1 e s
  | .sarEb1 e => Sys2Proof.Machine.execSarEb1 e s
  | .rolEv1 e => Sys2Proof.Machine.execRolEv1 e s
  | .rorEv1 e => Sys2Proof.Machine.execRorEv1 e s
  | .rclEv1 e => Sys2Proof.Machine.execRclEv1 e s
  | .rcrEv1 e => Sys2Proof.Machine.execRcrEv1 e s
  | .shlEv1 e => Sys2Proof.Machine.execShlEv1 e s
  | .shrEv1 e => Sys2Proof.Machine.execShrEv1 e s
  | .sarEv1 e => Sys2Proof.Machine.execSarEv1 e s
  | .rolEbCl e => Sys2Proof.Machine.execRolEbCl e s
  | .rorEbCl e => Sys2Proof.Machine.execRorEbCl e s
  | .rclEbCl e => Sys2Proof.Machine.execRclEbCl e s
  | .rcrEbCl e => Sys2Proof.Machine.execRcrEbCl e s
  | .shlEbCl e => Sys2Proof.Machine.execShlEbCl e s
  | .shrEbCl e => Sys2Proof.Machine.execShrEbCl e s
  | .sarEbCl e => Sys2Proof.Machine.execSarEbCl e s
  | .rolEvCl e => Sys2Proof.Machine.execRolEvCl e s
  | .rorEvCl e => Sys2Proof.Machine.execRorEvCl e s
  | .rclEvCl e => Sys2Proof.Machine.execRclEvCl e s
  | .rcrEvCl e => Sys2Proof.Machine.execRcrEvCl e s
  | .shlEvCl e => Sys2Proof.Machine.execShlEvCl e s
  | .shrEvCl e => Sys2Proof.Machine.execShrEvCl e s
  | .sarEvCl e => Sys2Proof.Machine.execSarEvCl e s
  | .retIw v => Sys2Proof.Machine.execRetIw v s
  | .lesGvMp g m => Sys2Proof.Machine.execLesGvMp g m s
  | .ldsGvMp g m => Sys2Proof.Machine.execLdsGvMp g m s
  | .retfIw v => Sys2Proof.Machine.execRetfIw v s
  | .intIb v => Sys2Proof.Machine.execIntIb v s
  | .aamIb v => Sys2Proof.Machine.execAamIb v s
  | .aadIb v => Sys2Proof.Machine.execAadIb v s
  | .movEbIb e v => Sys2Proof.Machine.execMovEbIb e v s
  | .movEvIw e v => Sys2Proof.Machine.execMovEvIw e v s
  | .enterIwIb size level => Sys2Proof.Machine.execEnterIwIb size level s
  | .esc x g e => Sys2Proof.Machine.execEsc x g e s
  | .loopneRel8 d => Sys2Proof.Machine.execLoopneRel8 d s
  | .loopeRel8 d => Sys2Proof.Machine.execLoopeRel8 d s
  | .loopRel8 d => Sys2Proof.Machine.execLoopRel8 d s
  | .jcxzRel8 d => Sys2Proof.Machine.execJcxzRel8 d s
  | .inAlIb v => Sys2Proof.Machine.execInAlIb v s
  | .inAxIb v => Sys2Proof.Machine.execInAxIb v s
  | .outIbAl p => Sys2Proof.Machine.execOutIbAl p s
  | .outIbAx p => Sys2Proof.Machine.execOutIbAx p s
  | .callRel16 d => Sys2Proof.Machine.execCallRel16 d s
  | .jmpRel16 d => Sys2Proof.Machine.execJmpRel16 d s
  | .jmpPtr off seg => Sys2Proof.Machine.execJmpPtr off seg s
  | .jmpRel8 d => Sys2Proof.Machine.execJmpRel8 d s
  | .testEbIb e v => Sys2Proof.Machine.execTestEbIb e v s
  | .notEb e => Sys2Proof.Machine.execNotEb e s
  | .negEb e => Sys2Proof.Machine.execNegEb e s
  | .mulEb e => Sys2Proof.Machine.execMulEb e s
  | .imulEb e => Sys2Proof.Machine.execImulEb e s
  | .divEb e => Sys2Proof.Machine.execDivEb e s
  | .idivEb e => Sys2Proof.Machine.execIdivEb e s
  | .testEvIw e v => Sys2Proof.Machine.execTestEvIw e v s
  | .notEv e => Sys2Proof.Machine.execNotEv e s
  | .negEv e => Sys2Proof.Machine.execNegEv e s
  | .mulEv e => Sys2Proof.Machine.execMulEv e s
  | .imulEv e => Sys2Proof.Machine.execImulEv e s
  | .divEv e => Sys2Proof.Machine.execDivEv e s
  | .idivEv e => Sys2Proof.Machine.execIdivEv e s
  | .incEb e => Sys2Proof.Machine.execIncEb e s
  | .decEb e => Sys2Proof.Machine.execDecEb e s
  | .incEv e => Sys2Proof.Machine.execIncEv e s
  | .decEv e => Sys2Proof.Machine.execDecEv e s
  | .callEv e => Sys2Proof.Machine.execCallEv e s
  | .callMpFar m => Sys2Proof.Machine.execCallMpFar m s
  | .jmpEv e => Sys2Proof.Machine.execJmpEv e s
  | .jmpMpFar m => Sys2Proof.Machine.execJmpMpFar m s
  | .pushEv e => Sys2Proof.Machine.execPushEv e s
  | .pushEs => Sys2Proof.Machine.execPushEs s
  | .pushCs => Sys2Proof.Machine.execPushCs s
  | .pushSs => Sys2Proof.Machine.execPushSs s
  | .pushDs => Sys2Proof.Machine.execPushDs s
  | .popEs => Sys2Proof.Machine.execPopEs s
  | .popSs => Sys2Proof.Machine.execPopSs s
  | .popDs => Sys2Proof.Machine.execPopDs s
  | .prefixEs => Sys2Proof.Machine.execPrefixEs s
  | .prefixCs => Sys2Proof.Machine.execPrefixCs s
  | .prefixSs => Sys2Proof.Machine.execPrefixSs s
  | .prefixDs => Sys2Proof.Machine.execPrefixDs s
  | .prefixLock => Sys2Proof.Machine.execPrefixLock s
  | .prefixRepne => Sys2Proof.Machine.execPrefixRepne s
  | .prefixRep => Sys2Proof.Machine.execPrefixRep s
  | .daa => Sys2Proof.Machine.execDaa s
  | .das => Sys2Proof.Machine.execDas s
  | .aaa => Sys2Proof.Machine.execAaa s
  | .aas => Sys2Proof.Machine.execAas s
  | .pusha => Sys2Proof.Machine.execPusha s
  | .popa => Sys2Proof.Machine.execPopa s
  | .insb => Sys2Proof.Machine.execInsb s
  | .insw => Sys2Proof.Machine.execInsw s
  | .outsb => Sys2Proof.Machine.execOutsb s
  | .outsw => Sys2Proof.Machine.execOutsw s
  | .nop => Sys2Proof.Machine.execNop s
  | .cbw => Sys2Proof.Machine.execCbw s
  | .cwd => Sys2Proof.Machine.execCwd s
  | .wait => Sys2Proof.Machine.execWait s
  | .pushf => Sys2Proof.Machine.execPushf s
  | .popf => Sys2Proof.Machine.execPopf s
  | .sahf => Sys2Proof.Machine.execSahf s
  | .lahf => Sys2Proof.Machine.execLahf s
  | .movsb => Sys2Proof.Machine.execMovsb s
  | .movsw => Sys2Proof.Machine.execMovsw s
  | .cmpsb => Sys2Proof.Machine.execCmpsb s
  | .cmpsw => Sys2Proof.Machine.execCmpsw s
  | .stosb => Sys2Proof.Machine.execStosb s
  | .stosw => Sys2Proof.Machine.execStosw s
  | .lodsb => Sys2Proof.Machine.execLodsb s
  | .lodsw => Sys2Proof.Machine.execLodsw s
  | .scasb => Sys2Proof.Machine.execScasb s
  | .scasw => Sys2Proof.Machine.execScasw s
  | .ret => Sys2Proof.Machine.execRet s
  | .retf => Sys2Proof.Machine.execRetf s
  | .int3 => Sys2Proof.Machine.execInt3 s
  | .into => Sys2Proof.Machine.execInto s
  | .iret => Sys2Proof.Machine.execIret s
  | .xlat => Sys2Proof.Machine.execXlat s
  | .leave => Sys2Proof.Machine.execLeave s
  | .inAlDx => Sys2Proof.Machine.execInAlDx s
  | .inAxDx => Sys2Proof.Machine.execInAxDx s
  | .outDxAl => Sys2Proof.Machine.execOutDxAl s
  | .outDxAx => Sys2Proof.Machine.execOutDxAx s
  | .hlt => Sys2Proof.Machine.execHlt s
  | .cmc => Sys2Proof.Machine.execCmc s
  | .clc => Sys2Proof.Machine.execClc s
  | .stc => Sys2Proof.Machine.execStc s
  | .cli => Sys2Proof.Machine.execCli s
  | .sti => Sys2Proof.Machine.execSti s
  | .cld => Sys2Proof.Machine.execCld s
  | .std => Sys2Proof.Machine.execStd s
  | .illegal0F => Sys2Proof.Machine.execIllegal0F s
  | .illegalI8088x60 => Sys2Proof.Machine.execIllegalI8088x60 s
  | .illegalI8088x61 => Sys2Proof.Machine.execIllegalI8088x61 s
  | .illegalI8088x62 => Sys2Proof.Machine.execIllegalI8088x62 s
  | .illegalI8088x68 => Sys2Proof.Machine.execIllegalI8088x68 s
  | .illegalI8088x69 => Sys2Proof.Machine.execIllegalI8088x69 s
  | .illegalI8088x6A => Sys2Proof.Machine.execIllegalI8088x6A s
  | .illegalI8088x6B => Sys2Proof.Machine.execIllegalI8088x6B s
  | .illegalI8088x6C => Sys2Proof.Machine.execIllegalI8088x6C s
  | .illegalI8088x6D => Sys2Proof.Machine.execIllegalI8088x6D s
  | .illegalI8088x6E => Sys2Proof.Machine.execIllegalI8088x6E s
  | .illegalI8088x6F => Sys2Proof.Machine.execIllegalI8088x6F s
  | .illegalI8088xC0 => Sys2Proof.Machine.execIllegalI8088xC0 s
  | .illegalI8088xC1 => Sys2Proof.Machine.execIllegalI8088xC1 s
  | .illegalI8088xC8 => Sys2Proof.Machine.execIllegalI8088xC8 s
  | .illegalI8088xC9 => Sys2Proof.Machine.execIllegalI8088xC9 s
  | .illegal63 => Sys2Proof.Machine.execIllegal63 s
  | .illegal64 => Sys2Proof.Machine.execIllegal64 s
  | .illegal65 => Sys2Proof.Machine.execIllegal65 s
  | .illegal66 => Sys2Proof.Machine.execIllegal66 s
  | .illegal67 => Sys2Proof.Machine.execIllegal67 s
  | .illegalD6 => Sys2Proof.Machine.execIllegalD6 s
  | .illegalF1 => Sys2Proof.Machine.execIllegalF1 s
  | .illegalC0r6 => Sys2Proof.Machine.execIllegalC0r6 s
  | .illegalC1r6 => Sys2Proof.Machine.execIllegalC1r6 s
  | .illegalD0r6 => Sys2Proof.Machine.execIllegalD0r6 s
  | .illegalD1r6 => Sys2Proof.Machine.execIllegalD1r6 s
  | .illegalD2r6 => Sys2Proof.Machine.execIllegalD2r6 s
  | .illegalD3r6 => Sys2Proof.Machine.execIllegalD3r6 s
  | .illegalF6r1 => Sys2Proof.Machine.execIllegalF6r1 s
  | .illegalF7r1 => Sys2Proof.Machine.execIllegalF7r1 s
  | .illegalFEr2 => Sys2Proof.Machine.execIllegalFEr2 s
  | .illegalFEr3 => Sys2Proof.Machine.execIllegalFEr3 s
  | .illegalFEr4 => Sys2Proof.Machine.execIllegalFEr4 s
  | .illegalFEr5 => Sys2Proof.Machine.execIllegalFEr5 s
  | .illegalFEr6 => Sys2Proof.Machine.execIllegalFEr6 s
  | .illegalFEr7 => Sys2Proof.Machine.execIllegalFEr7 s
  | .illegalFFr7 => Sys2Proof.Machine.execIllegalFFr7 s
  | .illegal8Fr1 => Sys2Proof.Machine.execIllegal8Fr1 s
  | .illegal8Fr2 => Sys2Proof.Machine.execIllegal8Fr2 s
  | .illegal8Fr3 => Sys2Proof.Machine.execIllegal8Fr3 s
  | .illegal8Fr4 => Sys2Proof.Machine.execIllegal8Fr4 s
  | .illegal8Fr5 => Sys2Proof.Machine.execIllegal8Fr5 s
  | .illegal8Fr6 => Sys2Proof.Machine.execIllegal8Fr6 s
  | .illegal8Fr7 => Sys2Proof.Machine.execIllegal8Fr7 s
  | .illegalC6r1 => Sys2Proof.Machine.execIllegalC6r1 s
  | .illegalC6r2 => Sys2Proof.Machine.execIllegalC6r2 s
  | .illegalC6r3 => Sys2Proof.Machine.execIllegalC6r3 s
  | .illegalC6r4 => Sys2Proof.Machine.execIllegalC6r4 s
  | .illegalC6r5 => Sys2Proof.Machine.execIllegalC6r5 s
  | .illegalC6r6 => Sys2Proof.Machine.execIllegalC6r6 s
  | .illegalC6r7 => Sys2Proof.Machine.execIllegalC6r7 s
  | .illegalC7r1 => Sys2Proof.Machine.execIllegalC7r1 s
  | .illegalC7r2 => Sys2Proof.Machine.execIllegalC7r2 s
  | .illegalC7r3 => Sys2Proof.Machine.execIllegalC7r3 s
  | .illegalC7r4 => Sys2Proof.Machine.execIllegalC7r4 s
  | .illegalC7r5 => Sys2Proof.Machine.execIllegalC7r5 s
  | .illegalC7r6 => Sys2Proof.Machine.execIllegalC7r6 s
  | .illegalC7r7 => Sys2Proof.Machine.execIllegalC7r7 s
  | .illegal8Cr4 => Sys2Proof.Machine.execIllegal8Cr4 s
  | .illegal8Cr5 => Sys2Proof.Machine.execIllegal8Cr5 s
  | .illegal8Cr6 => Sys2Proof.Machine.execIllegal8Cr6 s
  | .illegal8Cr7 => Sys2Proof.Machine.execIllegal8Cr7 s
  | .illegal8Er1 => Sys2Proof.Machine.execIllegal8Er1 s
  | .illegal8Er4 => Sys2Proof.Machine.execIllegal8Er4 s
  | .illegal8Er5 => Sys2Proof.Machine.execIllegal8Er5 s
  | .illegal8Er6 => Sys2Proof.Machine.execIllegal8Er6 s
  | .illegal8Er7 => Sys2Proof.Machine.execIllegal8Er7 s
  | .illegal8Dmod3 => Sys2Proof.Machine.execIllegal8Dmod3 s
  | .illegalC4mod3 => Sys2Proof.Machine.execIllegalC4mod3 s
  | .illegalC5mod3 => Sys2Proof.Machine.execIllegalC5mod3 s
  | .illegal62mod3 => Sys2Proof.Machine.execIllegal62mod3 s
  | .illegalFFr3mod3 => Sys2Proof.Machine.execIllegalFFr3mod3 s
  | .illegalFFr5mod3 => Sys2Proof.Machine.execIllegalFFr5mod3 s

end Sys2Proof.Machine
end

