-- ==== Sys2Proof/Machine/Sequence.lean ====
section
/-! DEFINITION. The items of a step (60_exceptions.md R502), which Sys2Proof/Machine/Step.lean's `step` runs: the single-step
trap, the poll of the controller, decoding with its prefix loop (30_encoding.md R110, R111), the tick phase. Then how an
instruction word is placed where the next step fetches it. -/

namespace Sys2Proof.Machine

/-! ### Items 1 to 4 -/

/-- Item 1: the cycle counter is 0; no signal of this step yet (60_exceptions.md R502). -/
def beginStep (s : State) : State := { s with cycles := 0, signal := .ok }

/-- Item 2: a latched trap delivers interrupt 1 (60_exceptions.md R505). -/
def deliverTrap (s : State) : Res := if s.trap then doInterrupt 1#8 s else .next s

/-- Item 3: the latch is loaded from the live TF (60_exceptions.md R506). -/
def armTrap (s : State) : State := { s with trap := flag .trap s }

/-- Item 4: with the latch clear and IF set the controller is polled, and the vector it answers is delivered
(60_exceptions.md R507). -/
def deliverPending (s : State) : Res :=
  if !s.trap && flag .interrupt s then
    match (pollPending s).1 with
    | some v => doInterrupt v (pollPending s).2
    | none => .next (pollPending s).2
  else .next s

/-! ### Reading an instruction -/

/-- The decode state at the start of a decode: `decode_start` is the live IP, no override, no REP (30_encoding.md R111;
10_state.md R36, R46). -/
def beginDecode (s : State) : State := { s with dec := { start := s.ip, segOverride := none, rep := .off } }

/-- The longest instruction without prefixes (30_encoding.md R114). -/
def maxLength : Nat := 6

/-- The next row of the opcode table at CS:IP, and the state after fetching its bytes and no others (30_encoding.md R110,
R143): the length is found on a copy of the state, so that each byte is read once. -/
def fetchInstr (s : State) : Except DecodeErr (Instr × State) :=
  match decode s.cpuMode (fetchBytes maxLength s).1 with
  | .ok (i, rest) => .ok (i, (fetchBytes (maxLength - rest.length) s).2)
  | .error e => .error e

/-! ### Items 8 to 10 -/

/-- The cycle count is fixed, every peripheral is ticked, the instruction counter goes up (60_exceptions.md R502;
70_reset_and_hazards.md R575). -/
def finishStep (s : State) : Res :=
  andThen (tickAll { s with cycles := Config.cyclesPerStep }) fun t => .next { t with icount := t.icount + 1#64 }

/-! ### Items 5 to 10 -/

/-- Items 5 to 10: prefixes are executed until a row that is no prefix, which is executed once; a string primitive runs its
own REP loop (30_encoding.md R111, R112; 43_string.md R370). The loop has no count limit: after `fuel` prefix bytes the call
ends inside it, and the next call of `step` goes on (notes/assumptions/9.md). -/
def runDecoded : Nat → State → Res
  | 0, s => .next { s with signal := .decoding }
  | fuel + 1, s =>
    match fetchInstr s with
    | .error e => .refused (.undecodable e)
    | .ok (i, s1) => andThen (exec i s1) (if i.isPrefix then runDecoded fuel else finishStep)

/-- As many prefix bytes as a code segment has offsets (notes/assumptions/9.md). -/
def prefixLimit : Nat := 65536

/-- The state in which a prefix loop that is under way goes on: the decode state it has reached is kept. -/
def resumeDecode (s : State) : State := { s with signal := .ok }

/-- `Step()` (60_exceptions.md R502), or the rest of one whose prefix loop is under way (30_encoding.md R111). -/
def runStep (s : State) : Res :=
  if s.signal = .decoding then runDecoded prefixLimit (resumeDecode s)
  else
    andThen (deliverTrap (beginStep s)) fun s =>
      andThen (deliverPending (armTrap s)) fun s => runDecoded prefixLimit (beginDecode s)

/-! ### Placing an instruction -/

/-- The contents with `bs` from linear offset `ip` of segment `cs` on, one byte for each offset (30_encoding.md R110). -/
def placeBytes (cs : Word) : List Byte → Word → Memory → Memory
  | [], _, m => m
  | b :: bs, ip, m => placeBytes cs bs (ip + 1#16) (m.write (lin cs ip).toNat b)

end Sys2Proof.Machine
end

