-- ==== Sys2Proof/Machine/Step.lean ====
section
/-! DEFINITION. The step of the machine, and the state with an instruction of the opcode table placed where the next step
fetches it. -/

namespace Sys2Proof.Machine

/-- One call of `Step()` (60_exceptions.md R502), or the rest of one whose prefix loop is under way
(notes/assumptions/9.md). -/
def step (s : State) : Host.Outcome State Fault Refusal := runStep s

/-- `s` with the instruction whose bits are `w`, numbered as spec/opcode_table.json numbers them, at CS:IP, zero bytes after
it. It stands for a program loaded from outside the machine (notes/assumptions/13.md): the contents of memory change and
nothing else, so the code address must be mapped to a `Ram` or `Rom` device, no trap latched, no interrupt due and no step
under way, all of which hold at `State.reset`. -/
def State.withFetchWord (s : State) (nbits w : Nat) : State :=
  { s with mem := placeBytes s.seg.cs (tableBytes nbits w maxLength) s.ip s.mem }

end Sys2Proof.Machine
end

