-- ==== Sys2Proof/Machine/Platform.lean ====
section
/-! DEFINITION. The host's side of the lifecycle (60_exceptions.md R540, R545): installation of the peripherals into the
dispatch tables with its errors (20_memory.md R76 to R78), the state a platform boots to, the façade's look-ups (R84), and
`Close`. Nothing of it runs inside a step. -/

namespace Sys2Proof.Machine

/-! ### Installation (20_memory.md R76 to R78) -/

/-- Why one installation fails (20_memory.md R77, R78). -/
inductive InstallError where
  /-- The device is not in the peripheral roster, or its slot is no slot. -/
  | deviceNotFound (slot : Nat)
  /-- An address of the range is claimed by another device. -/
  | conflict (slot : Nat)
  deriving DecidableEq, Repr

/-- The two address spaces (20_memory.md R74). -/
inductive Space where
  | memory
  | io
  deriving DecidableEq, Repr

/-- The number of addresses of a space (20_memory.md R74). -/
def Space.size : Space → Nat
  | .memory => 2 ^ 20
  | .io => 2 ^ 16

/-- Two ranges share an address. -/
def Range.meets (r q : Range) : Bool := decide (r.lo ≤ q.hi) && decide (q.lo ≤ r.hi)

/-- A range no installed range of another device meets. -/
def Table.freeFor (t : Table) (r : Range) : Bool := t.all fun q => q.slot == r.slot || !(r.meets q)

/-- `InstallMemory` or `InstallIO` of one inclusive range into a table, with `n` peripherals in the roster: the table after
it and the error, if any (20_memory.md R77, R78). A range that conflicts is dropped whole: the spec does not say what it leaves
in the table; DESIGN CHOICE, notes/assumptions/30.md. -/
def installRange (n : Nat) (r : Range) (t : Table) : Table × List InstallError :=
  if r.slot = 0 ∨ n < r.slot ∨ Config.maxPeripherals < r.slot then (t, [.deviceNotFound r.slot])
  else if t.freeFor r then (r :: t, [])
  else (t, [.conflict r.slot])

/-- Installations in order: the errors are collected and the remaining installations still run (20_memory.md R77). -/
def installAll (n : Nat) : List Range → Table → Table × List InstallError
  | [], t => (t, [])
  | r :: rs, t =>
    let one := installRange n r t
    let rest := installAll n rs one.1
    (rest.1, one.2 ++ rest.2)

/-- `InstallAt(device, a1, a2, ...)`: single-byte ranges (20_memory.md R77). -/
def installAt (slot : Nat) (addrs : List Nat) : List Range := addrs.map fun a => { lo := a, hi := a, slot := slot }

/-- The entry of the dummy device (20_memory.md R76). -/
def emptyTable : Table := []

/-- A peripheral and the ranges its `Install` asks for (60_exceptions.md R540, R541). That `Install` does nothing else and
returns no error of its own is the model's: DESIGN CHOICE, notes/assumptions/32.md. So is that the order of its memory requests
and its IO requests among each other is not kept: notes/assumptions/33.md. -/
structure Fitting where
  device : Peripheral
  memory : List (Nat × Nat)
  io : List (Nat × Nat)
  deriving DecidableEq, Repr

/-- The ranges the peripherals from slot `k` on ask for, in registration order (20_memory.md R77). The spec gives the range of
the device indices, not which peripheral has which; slots by registration order are the model's: DESIGN CHOICE,
notes/assumptions/29.md. -/
def requests (sp : Space) : Nat → List Fitting → List Range
  | _, [] => []
  | k, f :: fs =>
    ((match sp with | .memory => f.memory | .io => f.io).map fun p : Nat × Nat => { lo := p.1, hi := p.2, slot := k })
      ++ requests sp (k + 1) fs

/-- Every range lies in its space and is not empty. -/
def rangesFit (sp : Space) (rs : List Range) : Bool := rs.all fun r => decide (r.lo ≤ r.hi) && decide (r.hi < sp.size)

/-! ### A platform (the open parameters of 00_scope.md R6) -/

/-- The parameters a platform chooses: `P_MEMMAP` and `P_IOMAP` (the fittings and the launch contents), `P_SOFTINT`,
`P_PIC`, `P_CPU_MODE`, `P_WORD_WRAP` (00_scope.md R6). -/
structure Platform where
  fittings : List Fitting
  launch : Memory
  softInt : List SoftHandler
  pic : Option (List (Option Byte))
  cpuMode : CpuMode
  wordWrap : WordWrap
  deriving DecidableEq, Repr

/-- `Install()` on the memory table: the table and the errors (20_memory.md R77). One list of errors for each table, where the
spec speaks of a list, is the model's: DESIGN CHOICE, notes/assumptions/33.md. -/
def Platform.memoryMap (p : Platform) : Table × List InstallError :=
  installAll p.fittings.length (requests .memory 1 p.fittings) emptyTable

/-- `Install()` on the IO table (20_memory.md R77), with a list of errors of its own: DESIGN CHOICE, notes/assumptions/33.md. -/
def Platform.ioMap (p : Platform) : Table × List InstallError :=
  installAll p.fittings.length (requests .io 1 p.fittings) emptyTable

/-- A platform a model admits: no installation error, no more peripherals than slots, every range inside its space, and
launch contents in canonical form (20_memory.md R78). -/
def Platform.admitted (p : Platform) : Bool :=
  p.memoryMap.2.isEmpty && p.ioMap.2.isEmpty && decide (p.fittings.length ≤ Config.maxPeripherals)
    && rangesFit .memory (requests .memory 1 p.fittings) && rangesFit .io (requests .io 1 p.fittings) && p.launch.wf

/-- The state with a platform installed, before the first `Reset` (60_exceptions.md R540). -/
def Platform.installed (p : Platform) : State :=
  { State.reset with
    mem := p.launch, memTable := p.memoryMap.1, ioTable := p.ioMap.1
    peripherals := p.fittings.map (·.device), softInt := p.softInt, pic := p.pic
    cpuMode := p.cpuMode, wordWrap := p.wordWrap }

/-- `Install(); Reset()` (70_reset_and_hazards.md R554): a platform with an installation error is refused as a whole
(20_memory.md R78). -/
def boot (p : Platform) : Res := if p.admitted then .next (hostReset p.installed) else .refused .badPlatform

/-! ### The façade's look-ups and `Close` -/

/-- `GetMappedMemoryDevice(a)`: the table entry, without an access (20_memory.md R84). -/
def getMappedMemoryDevice (a : Addr) (s : State) : Nat := slotAt s.memTable a.toNat

/-- `GetMappedIODevice(p)`: the table entry, without an access (20_memory.md R84). -/
def getMappedIODevice (p : Word) (s : State) : Nat := slotAt s.ioTable p.toNat

/-- `GetInterruptController()`: whether one is attached (60_exceptions.md R543). -/
def hasInterruptController (s : State) : Bool := s.pic.isSome

/-- `Close()`: the errors of the peripherals' own `Close`, collected (60_exceptions.md R540). That a peripheral's `Close` has no
effect on the state, and the order of the list, are the model's: DESIGN CHOICE, notes/assumptions/31.md. -/
def closeErrors (s : State) : List Nat := s.peripherals.filterMap (·.closeError)

/-- The host reads and clears `debug_break` (60_exceptions.md R544). -/
def clearDebugBreak (s : State) : State := { s with debugBreak := false }

end Sys2Proof.Machine
end

