-- ==== Sys2Proof/Safety.lean ====
section
/-! DEFINITION. What counts as a good state of the machine, and the terms in which the obligations say what an instruction
changes and what it leaves alone: frames over registers, flags and bytes of memory, a value put at an operand's location, the
entry of an interrupt. -/

namespace Sys2Proof.Machine

/-! ### Good states -/

/-- Every installation names a slot of the roster and addresses of the space (20_memory.md R76 to R78). -/
def Table.inBounds (t : Table) (n size : Nat) : Bool :=
  t.all fun r => decide (1 ≤ r.slot) && decide (r.slot ≤ n) && decide (r.hi < size)

/-- No address is claimed by two different devices (20_memory.md R78). -/
def Table.exclusive : Table → Bool
  | [] => true
  | r :: t => Table.freeFor t r && Table.exclusive t

/-- The invariant of the machine: memory in canonical form; bit 1 of FLAGS reads 1 (10_state.md R37, R38); no more
peripherals than slots and dispatch tables an installation without error can leave (20_memory.md R76, R78). -/
structure Inv (s : State) : Prop where
  mem : s.mem.wf = true
  reserved : s.flags.getLsbD 1 = true
  roster : s.peripherals.length ≤ Config.maxPeripherals
  memBounds : s.memTable.inBounds s.peripherals.length Space.memory.size = true
  memExclusive : s.memTable.exclusive = true
  ioBounds : s.ioTable.inBounds s.peripherals.length Space.io.size = true
  ioExclusive : s.ioTable.exclusive = true

/-! ### Frames -/

/-- `t` is `s` but for the registers, IP, FLAGS, the contents of memory, and the model's record of device accesses and free
values: the trap latch, `debug_break`, `icount`, the decode state, the dispatch tables, the peripherals, the handlers, the
controller and the parameters are unchanged. -/
def SameSystem (s t : State) : Prop :=
  t = { s with gpr := t.gpr, seg := t.seg, ip := t.ip, flags := t.flags, mem := t.mem, events := t.events,
               draws := t.draws }

/-- No device has seen an access and no free value was drawn. -/
def Quiet (s t : State) : Prop := t.events = s.events ∧ t.draws = s.draws

/-- Every 16-bit general register outside `rs` is unchanged. -/
def SameRegsBut (rs : List Reg16) (s t : State) : Prop := ∀ r, r ∉ rs → reg16 r t = reg16 r s

/-- Every segment register outside `rs` is unchanged. -/
def SameSregsBut (rs : List Sreg) (s t : State) : Prop := ∀ r, r ∉ rs → sreg r t = sreg r s

/-- Every bit of FLAGS, named or not, that is none of the flags `fs` is unchanged. -/
def SameFlagsBut (fs : List Flag) (s t : State) : Prop :=
  ∀ i, (∀ f ∈ fs, f.bit ≠ i) → t.flags.getLsbD i = s.flags.getLsbD i

/-- Every byte of memory reads as before. -/
def SameMemory (s t : State) : Prop := ∀ a : Addr, t.mem.read a.toNat = s.mem.read a.toNat

/-- The bytes `ws` have been stored, the first of the list last: on a `Ram` device the address reads the byte; on any other
the contents are as before (20_memory.md R81, R82). Every address outside `ws` reads as before. -/
def Stored (ws : List (Addr × Byte)) (s t : State) : Prop :=
  ∀ a : Addr, t.mem.read a.toNat =
    if kindAt s a = some .ram then (ws.lookup a).getD (s.mem.read a.toNat) else s.mem.read a.toNat

/-- The two bytes of a word at `seg:off`, with their addresses (20_memory.md R86 to R88). -/
def wordCells (wrap : WordWrap) (seg off v : Word) : List (Addr × Byte) :=
  [(hiAddr wrap seg off, hiByte v), (lin seg off, loByte v)]

/-- The byte a read at `a` would give without drawing on a device: none for an `Opaque` device (20_memory.md R80, R82). -/
def peek (s : State) (a : Addr) : Option Byte :=
  match kindAt s a with
  | none => some Config.floatingBus
  | some .ram => some (s.mem.read a.toNat)
  | some .rom => some (s.mem.read a.toNat)
  | some .opaqueDev => none

/-- Registers, segment registers and memory of `t` are those of `s` with the byte `v` at `l`. -/
def PutByte (l : Loc8) (v : Byte) (s t : State) : Prop :=
  t.seg = s.seg ∧
  match l with
  | .reg r => (∀ q, reg8 q t = if q = r then v else reg8 q s) ∧ SameRegsBut [.ax, .cx, .dx, .bx] s t ∧ t.mem = s.mem
  | .mem seg off => t.gpr = s.gpr ∧ Stored [(lin seg off, v)] s t

/-- Registers, segment registers and memory of `t` are those of `s` with the word `v` at `l`. -/
def PutWord (l : Loc16) (v : Word) (s t : State) : Prop :=
  match l with
  | .reg r => (∀ q, reg16 q t = if q = r then v else reg16 q s) ∧ t.seg = s.seg ∧ t.mem = s.mem
  | .sreg r => (∀ q, sreg q t = if q = r then v else sreg q s) ∧ t.gpr = s.gpr ∧ t.mem = s.mem
  | .mem seg off => t.gpr = s.gpr ∧ t.seg = s.seg ∧ Stored (wordCells s.wordWrap seg off v) s t

/-- Nothing but the flags, the device record and IP differs. -/
def SameData (s t : State) : Prop := t.gpr = s.gpr ∧ t.seg = s.seg ∧ t.mem = s.mem

/-- The value a byte operand reads. -/
def value8 (e : RM Reg8) (s : State) : Byte := (readLoc8 (loc8 e s) s).1

/-- The value a word operand reads. -/
def value16 (e : RM Reg16) (s : State) : Word := (readLoc16 (loc16 e s) s).1

/-- SF, ZF and PF are those of the result `r` (41_arithmetic.md R260). -/
def SzpOf {n : Nat} (r : BitVec n) (t : State) : Prop :=
  flag .sign t = r.msb ∧ flag .zero t = decide (r = 0#n) ∧ flag .parity t = parity (r.setWidth 8)

/-- The state with IP and the operand fetch done is `s`; vector `n` has been taken through the vector table with `ret` the
pushed IP (60_exceptions.md R510, R512): six bytes on the stack, CS:IP from the vector (when no `Opaque` device holds it),
TF and IF clear. -/
def Entered (n : Byte) (ret : Word) (s t : State) : Prop :=
  SameSystem s t ∧ SameRegsBut [.sp] s t ∧ SameSregsBut [.cs] s t ∧ t.gpr.sp = s.gpr.sp - 6#16 ∧
  Stored (wordCells s.wordWrap s.seg.ss (s.gpr.sp - 6#16) ret ++ wordCells s.wordWrap s.seg.ss (s.gpr.sp - 4#16) s.seg.cs
    ++ wordCells s.wordWrap s.seg.ss (s.gpr.sp - 2#16) s.flags) s t ∧
  flag .trap t = false ∧ flag .interrupt t = false ∧ SameFlagsBut [.trap, .interrupt] s t ∧
  ∀ b0 b1 b2 b3, peek t (lin 0#16 (vectorOff n)) = some b0 → peek t (lin 0#16 (vectorOff n + 1#16)) = some b1 →
    peek t (lin 0#16 (vectorOff n + 2#16)) = some b2 → peek t (lin 0#16 (vectorOff n + 3#16)) = some b3 →
    t.ip = wordOfBytes b0 b1 ∧ t.seg.cs = wordOfBytes b2 b3

/-- No software interrupt handler is installed for vector `n` (60_exceptions.md R511). -/
def NoHandler (n : Byte) (s : State) : Prop := nextReply n s.softInt = none

/-- The word a read at `seg:off` would give, when neither byte is on an `Opaque` device (20_memory.md R86). -/
def peekWord (s : State) (seg off : Word) : Option Word :=
  match peek s (lin seg off), peek s (hiAddr s.wordWrap seg off) with
  | some lo, some hi => some (wordOfBytes lo hi)
  | _, _ => none

/-- A linear address is on a `Ram` device. -/
abbrev IsRam (s : State) (a : Addr) : Prop := kindAt s a = some .ram

/-! ### What a step does, in the terms of its parts -/

/-- The code bytes from `ip` on in the current code segment are `bs`, none of them on an `Opaque` device. -/
def CodeAt (s : State) : Word → List Byte → Prop
  | _, [] => True
  | ip, b :: bs => peek s (lin s.seg.cs ip) = some b ∧ CodeAt s (ip + 1#16) bs

/-- The state in which the decode of a step with no trap and no interrupt due begins (60_exceptions.md R502 items 1 to 5):
counter and signal cleared, the latch loaded from TF, the controller asked if it is to be asked. -/
def decodeStart (s : State) : State :=
  { s with cycles := 0, signal := .ok, trap := flag .trap s,
           pic := if flag .trap s = false ∧ flag .interrupt s = true then (pollPending s).2.pic else s.pic,
           dec := { start := s.ip, segOverride := none, rep := .off } }

/-- A step is to begin, no trap is latched and the controller, if it is asked, has nothing pending. -/
def NothingDue (s : State) : Prop :=
  s.signal ≠ .decoding ∧ s.trap = false ∧ (flag .trap s = true ∨ flag .interrupt s = false ∨ (pollPending s).1 = none)

/-- The state `d` in which a call of `step` on `s` reads its first byte: a step begins with nothing due, or the prefix loop of
a step under way goes on (60_exceptions.md R502; 30_encoding.md R111; notes/assumptions/9.md). -/
def DecodesFrom (s d : State) : Prop :=
  NothingDue s ∧ d = decodeStart s ∨ s.signal = .decoding ∧ d = resumeDecode s

/-! ### Results shared by the rows of a family -/

/-- A move of the byte `v` to `l` and nothing else (40_data_transfer.md R200). -/
def MovedByte (l : Loc8) (v : Byte) (s t : State) : Prop :=
  SameSystem s t ∧ t.ip = s.ip ∧ t.flags = s.flags ∧ PutByte l v s t

/-- A move of the word `v` to `l` and nothing else (40_data_transfer.md R200). -/
def MovedWord (l : Loc16) (v : Word) (s t : State) : Prop :=
  SameSystem s t ∧ t.ip = s.ip ∧ t.flags = s.flags ∧ PutWord l v s t

/-- The word `v` pushed and nothing else (20_memory.md R94). -/
def Pushed (v : Word) (s t : State) : Prop :=
  SameSystem s t ∧ t.ip = s.ip ∧ t.flags = s.flags ∧ t.seg = s.seg ∧ SameRegsBut [.sp] s t ∧
  t.gpr.sp = s.gpr.sp - 2#16 ∧ Stored (wordCells s.wordWrap s.seg.ss (s.gpr.sp - 2#16) v) s t

/-- A two-operand ALU row on bytes `a` and `b` with destination `l` (41_arithmetic.md R265): FLAGS by the operation, the
result written unless it is CMP. -/
def AluByteDone (op : AluOp) (l : Loc8) (a b : Byte) (s t : State) : Prop :=
  SameSystem s t ∧ t.ip = s.ip ∧ t.flags = (aluFlags op a b s.flags).2 ∧
  if op = .cmp then SameData s t else PutByte l (aluFlags op a b s.flags).1 s t

/-- A two-operand ALU row on words `a` and `b` with destination `l` (41_arithmetic.md R265). -/
def AluWordDone (op : AluOp) (l : Loc16) (a b : Word) (s t : State) : Prop :=
  SameSystem s t ∧ t.ip = s.ip ∧ t.flags = (aluFlags op a b s.flags).2 ∧
  if op = .cmp then SameData s t else PutWord l (aluFlags op a b s.flags).1 s t

/-- FLAGS after a shift or rotate by `cnt >= 1` of `a` (42_logic_shift.md R332 to R339); `r` is the result with the new
carry. OF for more than one position is `P_SHIFT_OF`; AF of the shifts is free. -/
def ShiftFlagsDone {n : Nat} (op : ShiftOp) (a : BitVec n) (cnt : Nat) (r : BitVec n × Bool) (s t : State) : Prop :=
  flag .carry t = r.2 ∧
  (flag .overflow t = if cnt = 1 then
      (match op with
        | .rol => r.2 ^^ r.1.msb | .rcl => r.2 ^^ r.1.msb | .shl => r.2 ^^ r.1.msb
        | .ror => r.1.getLsbD (n - 1) ^^ r.1.getLsbD (n - 2) | .rcr => r.1.getLsbD (n - 1) ^^ r.1.getLsbD (n - 2)
        | .shr => a.msb | .sar => false)
    else Config.shiftOf op n (a.setWidth 16) cnt (flag .carry s)) ∧
  match op with
  | .rol => SameFlagsBut [.carry, .overflow] s t
  | .ror => SameFlagsBut [.carry, .overflow] s t
  | .rcl => SameFlagsBut [.carry, .overflow] s t
  | .rcr => SameFlagsBut [.carry, .overflow] s t
  | .shl => SzpOf r.1 t ∧ SameFlagsBut [.carry, .overflow, .sign, .zero, .parity, .aux] s t
  | .shr => SzpOf r.1 t ∧ SameFlagsBut [.carry, .overflow, .sign, .zero, .parity, .aux] s t
  | .sar => SzpOf r.1 t ∧ SameFlagsBut [.carry, .overflow, .sign, .zero, .parity, .aux] s t

/-- A group 2 row on the byte `a` at `l` with raw count `raw` (42_logic_shift.md R330, R331): a count of 0 writes nothing. -/
def ShiftByteDone (op : ShiftOp) (l : Loc8) (a raw : Byte) (s t : State) : Prop :=
  SameSystem s t ∧ t.ip = s.ip ∧
  if effectiveCount s.cpuMode raw = 0 then SameData s t ∧ t.flags = s.flags
  else
    PutByte l (shiftTimes op (effectiveCount s.cpuMode raw) a (flag .carry s)).1 s t ∧
    ShiftFlagsDone op a (effectiveCount s.cpuMode raw) (shiftTimes op (effectiveCount s.cpuMode raw) a (flag .carry s)) s t

/-- A group 2 row on the word `a` at `l` with raw count `raw` (42_logic_shift.md R330, R331). -/
def ShiftWordDone (op : ShiftOp) (l : Loc16) (a : Word) (raw : Byte) (s t : State) : Prop :=
  SameSystem s t ∧ t.ip = s.ip ∧
  if effectiveCount s.cpuMode raw = 0 then SameData s t ∧ t.flags = s.flags
  else
    PutWord l (shiftTimes op (effectiveCount s.cpuMode raw) a (flag .carry s)).1 s t ∧
    ShiftFlagsDone op a (effectiveCount s.cpuMode raw) (shiftTimes op (effectiveCount s.cpuMode raw) a (flag .carry s)) s t

/-- A transfer to IP = `v` within the segment, and nothing else (44_control_transfer.md R400). -/
def JumpedTo (v : Word) (s t : State) : Prop :=
  SameSystem s t ∧ SameData s t ∧ t.flags = s.flags ∧ t.ip = v

/-- A transfer to `c:v`, and nothing else (44_control_transfer.md R400). -/
def FarJumpedTo (c v : Word) (s t : State) : Prop :=
  SameSystem s t ∧ t.gpr = s.gpr ∧ t.mem = s.mem ∧ SameSregsBut [.cs] s t ∧ t.flags = s.flags ∧ t.seg.cs = c ∧ t.ip = v

/-- An index register one element on, by DF (43_string.md R360). -/
def stepped (n : Word) (s : State) (v : Word) : Word := if flag .direction s then v - n else v + n

end Sys2Proof.Machine
end

