-- ==== Sys2Proof/Certificates/Slice0/Rows.lean ====
section
/-! DEFINITION. The rows of the opcode table by shape, as the obligations name them: the eight ALU operations in their ten
forms (30_encoding.md R116), group 2 (R131), the sixteen conditional jumps (44_control_transfer.md R404), the illegal rows
(30_encoding.md R140) and the rows of `V20` mode (46_v20_extensions.md R470). -/

namespace Sys2Proof.Rows

open Sys2Proof.Machine

/-! ### The ALU operations -/

/-- Opcodes 8k: `OP r/m8, r8`. -/
def aluRmReg8 (k : AluOp) (e : RM Reg8) (g : Reg8) : Instr :=
  match k with
  | .add => .addEbGb e g
  | .or => .orEbGb e g
  | .adc => .adcEbGb e g
  | .sbb => .sbbEbGb e g
  | .and => .andEbGb e g
  | .sub => .subEbGb e g
  | .xor => .xorEbGb e g
  | .cmp => .cmpEbGb e g

/-- Opcodes 8k + 1: `OP r/m16, r16`. -/
def aluRmReg16 (k : AluOp) (e : RM Reg16) (g : Reg16) : Instr :=
  match k with
  | .add => .addEvGv e g
  | .or => .orEvGv e g
  | .adc => .adcEvGv e g
  | .sbb => .sbbEvGv e g
  | .and => .andEvGv e g
  | .sub => .subEvGv e g
  | .xor => .xorEvGv e g
  | .cmp => .cmpEvGv e g

/-- Opcodes 8k + 2: `OP r8, r/m8`. -/
def aluRegRm8 (k : AluOp) (g : Reg8) (e : RM Reg8) : Instr :=
  match k with
  | .add => .addGbEb g e
  | .or => .orGbEb g e
  | .adc => .adcGbEb g e
  | .sbb => .sbbGbEb g e
  | .and => .andGbEb g e
  | .sub => .subGbEb g e
  | .xor => .xorGbEb g e
  | .cmp => .cmpGbEb g e

/-- Opcodes 8k + 3: `OP r16, r/m16`. -/
def aluRegRm16 (k : AluOp) (g : Reg16) (e : RM Reg16) : Instr :=
  match k with
  | .add => .addGvEv g e
  | .or => .orGvEv g e
  | .adc => .adcGvEv g e
  | .sbb => .sbbGvEv g e
  | .and => .andGvEv g e
  | .sub => .subGvEv g e
  | .xor => .xorGvEv g e
  | .cmp => .cmpGvEv g e

/-- Opcodes 8k + 4: `OP AL, ib`. -/
def aluAccImm8 (k : AluOp) (v : Byte) : Instr :=
  match k with
  | .add => .addAlIb v
  | .or => .orAlIb v
  | .adc => .adcAlIb v
  | .sbb => .sbbAlIb v
  | .and => .andAlIb v
  | .sub => .subAlIb v
  | .xor => .xorAlIb v
  | .cmp => .cmpAlIb v

/-- Opcodes 8k + 5: `OP AX, iw`. -/
def aluAccImm16 (k : AluOp) (v : Word) : Instr :=
  match k with
  | .add => .addAxIw v
  | .or => .orAxIw v
  | .adc => .adcAxIw v
  | .sbb => .sbbAxIw v
  | .and => .andAxIw v
  | .sub => .subAxIw v
  | .xor => .xorAxIw v
  | .cmp => .cmpAxIw v

/-- 80h /k: `OP r/m8, ib`. -/
def aluRmImm8 (k : AluOp) (e : RM Reg8) (v : Byte) : Instr :=
  match k with
  | .add => .addEbIb e v
  | .or => .orEbIb e v
  | .adc => .adcEbIb e v
  | .sbb => .sbbEbIb e v
  | .and => .andEbIb e v
  | .sub => .subEbIb e v
  | .xor => .xorEbIb e v
  | .cmp => .cmpEbIb e v

/-- 82h /k: `OP r/m8, ib`. -/
def aluRmImm8Alias (k : AluOp) (e : RM Reg8) (v : Byte) : Instr :=
  match k with
  | .add => .addEbIb82 e v
  | .or => .orEbIb82 e v
  | .adc => .adcEbIb82 e v
  | .sbb => .sbbEbIb82 e v
  | .and => .andEbIb82 e v
  | .sub => .subEbIb82 e v
  | .xor => .xorEbIb82 e v
  | .cmp => .cmpEbIb82 e v

/-- 81h /k: `OP r/m16, iw`. -/
def aluRmImm16 (k : AluOp) (e : RM Reg16) (v : Word) : Instr :=
  match k with
  | .add => .addEvIw e v
  | .or => .orEvIw e v
  | .adc => .adcEvIw e v
  | .sbb => .sbbEvIw e v
  | .and => .andEvIw e v
  | .sub => .subEvIw e v
  | .xor => .xorEvIw e v
  | .cmp => .cmpEvIw e v

/-- 83h /k: `OP r/m16, sext_16(ib)`. -/
def aluRmImmSx (k : AluOp) (e : RM Reg16) (v : Byte) : Instr :=
  match k with
  | .add => .addEvIbS e v
  | .or => .orEvIbS e v
  | .adc => .adcEvIbS e v
  | .sbb => .sbbEvIbS e v
  | .and => .andEvIbS e v
  | .sub => .subEvIbS e v
  | .xor => .xorEvIbS e v
  | .cmp => .cmpEvIbS e v

/-! ### Group 2 -/

/-- D0h: by 1, byte. -/
def shiftBy1R8 (k : ShiftOp) (e : RM Reg8) : Instr :=
  match k with
  | .rol => .rolEb1 e
  | .ror => .rorEb1 e
  | .rcl => .rclEb1 e
  | .rcr => .rcrEb1 e
  | .shl => .shlEb1 e
  | .shr => .shrEb1 e
  | .sar => .sarEb1 e

/-- D1h: by 1, word. -/
def shiftBy1R16 (k : ShiftOp) (e : RM Reg16) : Instr :=
  match k with
  | .rol => .rolEv1 e
  | .ror => .rorEv1 e
  | .rcl => .rclEv1 e
  | .rcr => .rcrEv1 e
  | .shl => .shlEv1 e
  | .shr => .shrEv1 e
  | .sar => .sarEv1 e

/-- D2h: by CL, byte. -/
def shiftByClR8 (k : ShiftOp) (e : RM Reg8) : Instr :=
  match k with
  | .rol => .rolEbCl e
  | .ror => .rorEbCl e
  | .rcl => .rclEbCl e
  | .rcr => .rcrEbCl e
  | .shl => .shlEbCl e
  | .shr => .shrEbCl e
  | .sar => .sarEbCl e

/-- D3h: by CL, word. -/
def shiftByClR16 (k : ShiftOp) (e : RM Reg16) : Instr :=
  match k with
  | .rol => .rolEvCl e
  | .ror => .rorEvCl e
  | .rcl => .rclEvCl e
  | .rcr => .rcrEvCl e
  | .shl => .shlEvCl e
  | .shr => .shrEvCl e
  | .sar => .sarEvCl e

/-- C0h: by an immediate, byte. -/
def shiftByImmR8 (k : ShiftOp) (e : RM Reg8) (v : Byte) : Instr :=
  match k with
  | .rol => .rolEbIb e v
  | .ror => .rorEbIb e v
  | .rcl => .rclEbIb e v
  | .rcr => .rcrEbIb e v
  | .shl => .shlEbIb e v
  | .shr => .shrEbIb e v
  | .sar => .sarEbIb e v

/-- C1h: by an immediate, word. -/
def shiftByImmR16 (k : ShiftOp) (e : RM Reg16) (v : Byte) : Instr :=
  match k with
  | .rol => .rolEvIb e v
  | .ror => .rorEvIb e v
  | .rcl => .rclEvIb e v
  | .rcr => .rcrEvIb e v
  | .shl => .shlEvIb e v
  | .shr => .shrEvIb e v
  | .sar => .sarEvIb e v

/-! ### Conditional jumps -/

/-- 70h to 7Fh. -/
def jcc (k : Cond) (d : Byte) : Instr :=
  match k with
  | .o => .joRel8 d
  | .no => .jnoRel8 d
  | .b => .jbRel8 d
  | .ae => .jaeRel8 d
  | .e => .jeRel8 d
  | .ne => .jneRel8 d
  | .be => .jbeRel8 d
  | .a => .jaRel8 d
  | .s => .jsRel8 d
  | .ns => .jnsRel8 d
  | .p => .jpRel8 d
  | .np => .jnpRel8 d
  | .l => .jlRel8 d
  | .ge => .jgeRel8 d
  | .le => .jleRel8 d
  | .g => .jgRel8 d

/-! ### Illegal rows and rows of one mode -/

/-- The rows illegal in both modes, and the one illegal only because of its `V20` row (62h with `mod` 3) (30_encoding.md R140). -/
def illegalRows : List Instr :=
  ([.illegal0F, .illegal63, .illegal64, .illegal65, .illegal66, .illegal67, .illegalD6, .illegalF1] : List Instr) ++
  ([.illegalC0r6, .illegalC1r6, .illegalD0r6, .illegalD1r6, .illegalD2r6, .illegalD3r6, .illegalF6r1, .illegalF7r1] : List Instr) ++
  ([.illegalFEr2, .illegalFEr3, .illegalFEr4, .illegalFEr5, .illegalFEr6, .illegalFEr7, .illegalFFr7, .illegal8Fr1] : List Instr) ++
  ([.illegal8Fr2, .illegal8Fr3, .illegal8Fr4, .illegal8Fr5, .illegal8Fr6, .illegal8Fr7, .illegalC6r1, .illegalC6r2] : List Instr) ++
  ([.illegalC6r3, .illegalC6r4, .illegalC6r5, .illegalC6r6, .illegalC6r7, .illegalC7r1, .illegalC7r2, .illegalC7r3] : List Instr) ++
  ([.illegalC7r4, .illegalC7r5, .illegalC7r6, .illegalC7r7, .illegal8Cr4, .illegal8Cr5, .illegal8Cr6, .illegal8Cr7] : List Instr) ++
  ([.illegal8Er1, .illegal8Er4, .illegal8Er5, .illegal8Er6, .illegal8Er7, .illegal8Dmod3, .illegalC4mod3, .illegalC5mod3] : List Instr) ++
  ([.illegal62mod3, .illegalFFr3mod3, .illegalFFr5mod3] : List Instr)

/-- The opcodes illegal in `I8088` mode alone (46_v20_extensions.md R470). -/
def baselineIllegalRows : List Instr :=
  ([.illegalI8088x60, .illegalI8088x61, .illegalI8088x62, .illegalI8088x68, .illegalI8088x69, .illegalI8088x6A, .illegalI8088x6B, .illegalI8088x6C] : List Instr) ++
  ([.illegalI8088x6D, .illegalI8088x6E, .illegalI8088x6F, .illegalI8088xC0, .illegalI8088xC1, .illegalI8088xC8, .illegalI8088xC9] : List Instr)

/-- A row of `V20` mode (46_v20_extensions.md R470). -/
def isV20Row : Instr → Bool
  | .addEbGb _ _ => false
  | .addEvGv _ _ => false
  | .addGbEb _ _ => false
  | .addGvEv _ _ => false
  | .addAlIb _ => false
  | .addAxIw _ => false
  | .orEbGb _ _ => false
  | .orEvGv _ _ => false
  | .orGbEb _ _ => false
  | .orGvEv _ _ => false
  | .orAlIb _ => false
  | .orAxIw _ => false
  | .adcEbGb _ _ => false
  | .adcEvGv _ _ => false
  | .adcGbEb _ _ => false
  | .adcGvEv _ _ => false
  | .adcAlIb _ => false
  | .adcAxIw _ => false
  | .sbbEbGb _ _ => false
  | .sbbEvGv _ _ => false
  | .sbbGbEb _ _ => false
  | .sbbGvEv _ _ => false
  | .sbbAlIb _ => false
  | .sbbAxIw _ => false
  | .andEbGb _ _ => false
  | .andEvGv _ _ => false
  | .andGbEb _ _ => false
  | .andGvEv _ _ => false
  | .andAlIb _ => false
  | .andAxIw _ => false
  | .subEbGb _ _ => false
  | .subEvGv _ _ => false
  | .subGbEb _ _ => false
  | .subGvEv _ _ => false
  | .subAlIb _ => false
  | .subAxIw _ => false
  | .xorEbGb _ _ => false
  | .xorEvGv _ _ => false
  | .xorGbEb _ _ => false
  | .xorGvEv _ _ => false
  | .xorAlIb _ => false
  | .xorAxIw _ => false
  | .cmpEbGb _ _ => false
  | .cmpEvGv _ _ => false
  | .cmpGbEb _ _ => false
  | .cmpGvEv _ _ => false
  | .cmpAlIb _ => false
  | .cmpAxIw _ => false
  | .incR16 _ => false
  | .decR16 _ => false
  | .pushR16 _ => false
  | .popR16 _ => false
  | .boundGvMa _ _ => true
  | .pushIw _ => true
  | .imulGvEvIw _ _ _ => true
  | .pushIbS _ => true
  | .imulGvEvIbS _ _ _ => true
  | .joRel8 _ => false
  | .jnoRel8 _ => false
  | .jbRel8 _ => false
  | .jaeRel8 _ => false
  | .jeRel8 _ => false
  | .jneRel8 _ => false
  | .jbeRel8 _ => false
  | .jaRel8 _ => false
  | .jsRel8 _ => false
  | .jnsRel8 _ => false
  | .jpRel8 _ => false
  | .jnpRel8 _ => false
  | .jlRel8 _ => false
  | .jgeRel8 _ => false
  | .jleRel8 _ => false
  | .jgRel8 _ => false
  | .addEbIb _ _ => false
  | .orEbIb _ _ => false
  | .adcEbIb _ _ => false
  | .sbbEbIb _ _ => false
  | .andEbIb _ _ => false
  | .subEbIb _ _ => false
  | .xorEbIb _ _ => false
  | .cmpEbIb _ _ => false
  | .addEvIw _ _ => false
  | .orEvIw _ _ => false
  | .adcEvIw _ _ => false
  | .sbbEvIw _ _ => false
  | .andEvIw _ _ => false
  | .subEvIw _ _ => false
  | .xorEvIw _ _ => false
  | .cmpEvIw _ _ => false
  | .addEbIb82 _ _ => false
  | .orEbIb82 _ _ => false
  | .adcEbIb82 _ _ => false
  | .sbbEbIb82 _ _ => false
  | .andEbIb82 _ _ => false
  | .subEbIb82 _ _ => false
  | .xorEbIb82 _ _ => false
  | .cmpEbIb82 _ _ => false
  | .addEvIbS _ _ => false
  | .orEvIbS _ _ => false
  | .adcEvIbS _ _ => false
  | .sbbEvIbS _ _ => false
  | .andEvIbS _ _ => false
  | .subEvIbS _ _ => false
  | .xorEvIbS _ _ => false
  | .cmpEvIbS _ _ => false
  | .testEbGb _ _ => false
  | .testEvGv _ _ => false
  | .xchgEbGb _ _ => false
  | .xchgEvGv _ _ => false
  | .movEbGb _ _ => false
  | .movEvGv _ _ => false
  | .movGbEb _ _ => false
  | .movGvEv _ _ => false
  | .movEwEs _ => false
  | .movEwCs _ => false
  | .movEwSs _ => false
  | .movEwDs _ => false
  | .leaGvM _ _ => false
  | .movEsEw _ => false
  | .movSsEw _ => false
  | .movDsEw _ => false
  | .popEv _ => false
  | .xchgAxR16 _ => false
  | .callPtr _ _ => false
  | .movAlOb _ => false
  | .movAxOv _ => false
  | .movObAl _ => false
  | .movOvAx _ => false
  | .testAlIb _ => false
  | .testAxIw _ => false
  | .movR8Ib _ _ => false
  | .movR16Iw _ _ => false
  | .rolEbIb _ _ => true
  | .rorEbIb _ _ => true
  | .rclEbIb _ _ => true
  | .rcrEbIb _ _ => true
  | .shlEbIb _ _ => true
  | .shrEbIb _ _ => true
  | .sarEbIb _ _ => true
  | .rolEvIb _ _ => true
  | .rorEvIb _ _ => true
  | .rclEvIb _ _ => true
  | .rcrEvIb _ _ => true
  | .shlEvIb _ _ => true
  | .shrEvIb _ _ => true
  | .sarEvIb _ _ => true
  | .rolEb1 _ => false
  | .rorEb1 _ => false
  | .rclEb1 _ => false
  | .rcrEb1 _ => false
  | .shlEb1 _ => false
  | .shrEb1 _ => false
  | .sarEb1 _ => false
  | .rolEv1 _ => false
  | .rorEv1 _ => false
  | .rclEv1 _ => false
  | .rcrEv1 _ => false
  | .shlEv1 _ => false
  | .shrEv1 _ => false
  | .sarEv1 _ => false
  | .rolEbCl _ => false
  | .rorEbCl _ => false
  | .rclEbCl _ => false
  | .rcrEbCl _ => false
  | .shlEbCl _ => false
  | .shrEbCl _ => false
  | .sarEbCl _ => false
  | .rolEvCl _ => false
  | .rorEvCl _ => false
  | .rclEvCl _ => false
  | .rcrEvCl _ => false
  | .shlEvCl _ => false
  | .shrEvCl _ => false
  | .sarEvCl _ => false
  | .retIw _ => false
  | .lesGvMp _ _ => false
  | .ldsGvMp _ _ => false
  | .retfIw _ => false
  | .intIb _ => false
  | .aamIb _ => false
  | .aadIb _ => false
  | .movEbIb _ _ => false
  | .movEvIw _ _ => false
  | .enterIwIb _ _ => true
  | .esc _ _ _ => false
  | .loopneRel8 _ => false
  | .loopeRel8 _ => false
  | .loopRel8 _ => false
  | .jcxzRel8 _ => false
  | .inAlIb _ => false
  | .inAxIb _ => false
  | .outIbAl _ => false
  | .outIbAx _ => false
  | .callRel16 _ => false
  | .jmpRel16 _ => false
  | .jmpPtr _ _ => false
  | .jmpRel8 _ => false
  | .testEbIb _ _ => false
  | .notEb _ => false
  | .negEb _ => false
  | .mulEb _ => false
  | .imulEb _ => false
  | .divEb _ => false
  | .idivEb _ => false
  | .testEvIw _ _ => false
  | .notEv _ => false
  | .negEv _ => false
  | .mulEv _ => false
  | .imulEv _ => false
  | .divEv _ => false
  | .idivEv _ => false
  | .incEb _ => false
  | .decEb _ => false
  | .incEv _ => false
  | .decEv _ => false
  | .callEv _ => false
  | .callMpFar _ => false
  | .jmpEv _ => false
  | .jmpMpFar _ => false
  | .pushEv _ => false
  | .pushEs => false
  | .pushCs => false
  | .pushSs => false
  | .pushDs => false
  | .popEs => false
  | .popSs => false
  | .popDs => false
  | .prefixEs => false
  | .prefixCs => false
  | .prefixSs => false
  | .prefixDs => false
  | .prefixLock => false
  | .prefixRepne => false
  | .prefixRep => false
  | .daa => false
  | .das => false
  | .aaa => false
  | .aas => false
  | .pusha => true
  | .popa => true
  | .insb => true
  | .insw => true
  | .outsb => true
  | .outsw => true
  | .nop => false
  | .cbw => false
  | .cwd => false
  | .wait => false
  | .pushf => false
  | .popf => false
  | .sahf => false
  | .lahf => false
  | .movsb => false
  | .movsw => false
  | .cmpsb => false
  | .cmpsw => false
  | .stosb => false
  | .stosw => false
  | .lodsb => false
  | .lodsw => false
  | .scasb => false
  | .scasw => false
  | .ret => false
  | .retf => false
  | .int3 => false
  | .into => false
  | .iret => false
  | .xlat => false
  | .leave => true
  | .inAlDx => false
  | .inAxDx => false
  | .outDxAl => false
  | .outDxAx => false
  | .hlt => false
  | .cmc => false
  | .clc => false
  | .stc => false
  | .cli => false
  | .sti => false
  | .cld => false
  | .std => false
  | .illegal0F => false
  | .illegalI8088x60 => false
  | .illegalI8088x61 => false
  | .illegalI8088x62 => false
  | .illegalI8088x68 => false
  | .illegalI8088x69 => false
  | .illegalI8088x6A => false
  | .illegalI8088x6B => false
  | .illegalI8088x6C => false
  | .illegalI8088x6D => false
  | .illegalI8088x6E => false
  | .illegalI8088x6F => false
  | .illegalI8088xC0 => false
  | .illegalI8088xC1 => false
  | .illegalI8088xC8 => false
  | .illegalI8088xC9 => false
  | .illegal63 => false
  | .illegal64 => false
  | .illegal65 => false
  | .illegal66 => false
  | .illegal67 => false
  | .illegalD6 => false
  | .illegalF1 => false
  | .illegalC0r6 => false
  | .illegalC1r6 => false
  | .illegalD0r6 => false
  | .illegalD1r6 => false
  | .illegalD2r6 => false
  | .illegalD3r6 => false
  | .illegalF6r1 => false
  | .illegalF7r1 => false
  | .illegalFEr2 => false
  | .illegalFEr3 => false
  | .illegalFEr4 => false
  | .illegalFEr5 => false
  | .illegalFEr6 => false
  | .illegalFEr7 => false
  | .illegalFFr7 => false
  | .illegal8Fr1 => false
  | .illegal8Fr2 => false
  | .illegal8Fr3 => false
  | .illegal8Fr4 => false
  | .illegal8Fr5 => false
  | .illegal8Fr6 => false
  | .illegal8Fr7 => false
  | .illegalC6r1 => false
  | .illegalC6r2 => false
  | .illegalC6r3 => false
  | .illegalC6r4 => false
  | .illegalC6r5 => false
  | .illegalC6r6 => false
  | .illegalC6r7 => false
  | .illegalC7r1 => false
  | .illegalC7r2 => false
  | .illegalC7r3 => false
  | .illegalC7r4 => false
  | .illegalC7r5 => false
  | .illegalC7r6 => false
  | .illegalC7r7 => false
  | .illegal8Cr4 => false
  | .illegal8Cr5 => false
  | .illegal8Cr6 => false
  | .illegal8Cr7 => false
  | .illegal8Er1 => false
  | .illegal8Er4 => false
  | .illegal8Er5 => false
  | .illegal8Er6 => false
  | .illegal8Er7 => false
  | .illegal8Dmod3 => false
  | .illegalC4mod3 => false
  | .illegalC5mod3 => false
  | .illegal62mod3 => false
  | .illegalFFr3mod3 => false
  | .illegalFFr5mod3 => false

/-- The string primitives of both modes (43_string.md R369). -/
def stringRows : List Instr :=
  [.movsb, .movsw, .cmpsb, .cmpsw, .stosb, .stosw, .lodsb, .lodsw, .scasb, .scasw]

/-- The string primitives of `V20` mode (43_string.md R369). -/
def ioStringRows : List Instr := [.insb, .insw, .outsb, .outsw]

/-- The string primitives whose REP loop may end early: the compare and scan primitives (43_string.md R371). -/
def scanRows : List Instr := [.cmpsb, .cmpsw, .scasb, .scasw]

/-- The rows that can enter an interrupt themselves: the software interrupts, the divisions, BOUND and the illegal encodings
(44_control_transfer.md R424, R425, R427; 60_exceptions.md R520, R522; 46_v20_extensions.md R476). -/
def CanEnterInterrupt (i : Instr) : Prop :=
  i ∈ illegalRows ∨ i = .int3 ∨ i = .into ∨ (∃ v, i = .intIb v ∨ i = .aamIb v) ∨ (∃ e, i = .divEb e ∨ i = .idivEb e) ∨
  (∃ f, i = .divEv f ∨ i = .idivEv f) ∨ ∃ g m, i = .boundGvMa g m

/-- The decode state after a prefix byte (30_encoding.md R111). -/
def prefixEffect (d : DecodeState) (i : Instr) : DecodeState :=
  if i = .prefixEs then { d with segOverride := some .es }
  else if i = .prefixCs then { d with segOverride := some .cs }
  else if i = .prefixSs then { d with segOverride := some .ss }
  else if i = .prefixDs then { d with segOverride := some .ds }
  else if i = .prefixRepne then { d with rep := .repne }
  else if i = .prefixRep then { d with rep := .repe }
  else d

end Sys2Proof.Rows
end

