-- ==== Sys2Proof/Certificates/Slice0/Obligations.lean ====
section
/-! DEFINITION. The statements about the machine, each for the rules of spec/ its docstring names. -/

open Sys2Proof Sys2Proof.Machine Sys2Proof.Rows

/-! ### Reset and platform -/

/-- The host's reset (70_reset_and_hazards.md R550, R553; 10_state.md R51). That no step is under way after it, that the
peripherals' lists stay, and that a peripheral's own reset is a list of bus accesses that is run again at every reset, are the
model's: notes/assumptions/7.md, 9.md, 14.md, 28.md. -/
def Obligations.HostResetState : Prop :=
  ∀ s : State,
    (∀ r, reg16 r (hostReset s) = 0#16) ∧
    (∀ r, sreg r (hostReset s) = if r = .cs then 0xFFFF#16 else 0#16) ∧
    (hostReset s).ip = 0#16 ∧ (hostReset s).flags = 0x0002#16 ∧
    (hostReset s).trap = false ∧ (hostReset s).debugBreak = false ∧ (hostReset s).signal = .ok ∧ (hostReset s).icount = s.icount ∧
    (hostReset s).memTable = s.memTable ∧ (hostReset s).ioTable = s.ioTable ∧ (hostReset s).cpuMode = s.cpuMode ∧
    (hostReset s).peripherals = s.peripherals ∧
    ((∀ p ∈ s.peripherals, p.resetOps = []) → (hostReset s).mem = s.mem)

/-- The model's state after reset meets the invariant. Its platform, its mode and `icount` are the model's choices
(notes/assumptions/6.md, 10.md, 11.md, 12.md). -/
def Obligations.ResetMeetsInv : Prop := Inv State.reset

/-- A platform in which two devices claim one address is refused (20_memory.md R78); any platform that boots meets the
invariant and is in the reset state of 10_state.md R51. -/
def Obligations.BootAdmitsOnlyConflictFreePlatforms : Prop :=
  (∀ (p : Platform) (i j a : Nat) (f g : Fitting) (r q : Nat × Nat),
    p.fittings[i]? = some f → p.fittings[j]? = some g → i ≠ j →
    (r ∈ f.memory ∧ q ∈ g.memory ∨ r ∈ f.io ∧ q ∈ g.io) →
    r.1 ≤ a → a ≤ r.2 → q.1 ≤ a → a ≤ q.2 → boot p = .refused .badPlatform) ∧
  (∀ (p : Platform) (s : State), boot p = .next s →
    Inv s ∧ s.gpr = State.reset.gpr ∧ s.seg = State.reset.seg ∧ s.ip = 0#16 ∧ s.flags = 0x0002#16)

/-! ### Encoding -/

/-- Words written out from 30_encoding.md's opcode map, one or more for each family (R114, R116, R120, R123, R130, R131). -/
def Obligations.OpcodeMapWordsDecode : Prop :=
  decode .v20 [0x89#8, 0xC3#8] = .ok (.movEvGv (.reg .bx) .ax, []) ∧
  decode .v20 [0x8D#8, 0x40#8, 0x04#8] = .ok (.leaGvM .ax (.disp8 .bxSi 0x04#8), []) ∧
  decode .v20 [0xC7#8, 0x06#8, 0x00#8, 0x02#8, 0xCD#8, 0xAB#8]
    = .ok (.movEvIw (.mem (.direct 0x0200#16)) 0xABCD#16, []) ∧
  decode .v20 [0x83#8, 0xE0#8, 0xFE#8] = .ok (.andEvIbS (.reg .ax) 0xFE#8, []) ∧
  decode .v20 [0x3A#8, 0x87#8, 0x34#8, 0x12#8] = .ok (.cmpGbEb .al (.mem (.disp16 .bx 0x1234#16)), []) ∧
  decode .v20 [0xD3#8, 0x3A#8] = .ok (.sarEvCl (.mem (.disp0 .bpSi)), []) ∧
  decode .i8088 [0xF6#8, 0xF4#8] = .ok (.divEb (.reg .ah), []) ∧
  decode .i8088 [0xA6#8, 0x90#8] = .ok (.cmpsb, [0x90#8]) ∧
  decode .i8088 [0xEA#8, 0x5B#8, 0xE0#8, 0x00#8, 0xF0#8] = .ok (.jmpPtr 0xE05B#16 0xF000#16, []) ∧
  decode .i8088 [0x7C#8, 0xFE#8] = .ok (.jlRel8 0xFE#8, []) ∧
  decode .i8088 [0xF4#8] = .ok (.hlt, []) ∧
  decode .v20 [0xC8#8, 0x04#8, 0x00#8, 0x01#8] = .ok (.enterIwIb 0x0004#16 0x01#8, []) ∧
  decode .i8088 [0xC8#8, 0x04#8, 0x00#8, 0x01#8] = .ok (.illegalI8088xC8, [0x04#8, 0x00#8, 0x01#8]) ∧
  decode .v20 [0x6B#8, 0xC3#8, 0xFE#8] = .ok (.imulGvEvIbS .ax (.reg .bx) 0xFE#8, []) ∧
  decode .v20 [0xFF#8, 0xD8#8] = .ok (.illegalFFr3mod3, [])

/-- Six bytes always decode, to an instruction of 1 to 6 bytes that is well formed in the mode (30_encoding.md R114, R140,
R143). -/
def Obligations.SixBytesAlwaysDecode : Prop :=
  ∀ (m : CpuMode) (bs : List Byte), 6 ≤ bs.length →
    ∃ (i : Instr) (used rest : List Byte),
      decode m bs = .ok (i, rest) ∧ bs = used ++ rest ∧ 1 ≤ used.length ∧ used.length ≤ 6 ∧ i.wellFormed m = true

/-- Decoding the encoding of a well-formed instruction gives it back, with every operand (30_encoding.md R114 to R131). -/
def Obligations.DecodeOfEncode : Prop :=
  ∀ (m : CpuMode) (i : Instr) (rest : List Byte), i.wellFormed m = true → decode m (encode i ++ rest) = .ok (i, rest)

/-- The other direction: what decodes to a legal row is that row's encoding, so no two words mean the same
(30_encoding.md R130, R131). -/
def Obligations.EncodeOfDecode : Prop :=
  ∀ (m : CpuMode) (bs : List Byte) (i : Instr) (rest : List Byte), decode m bs = .ok (i, rest) →
    i ∉ illegalRows → bs = encode i ++ rest

/-! ### The step -/

/-- When no trap and no interrupt is due, or a prefix loop goes on, and the bytes at CS:IP decode to `i`, which is no prefix,
the step is `exec i` on the state with exactly the bytes of `i` fetched, then the tick phase (60_exceptions.md R502;
30_encoding.md R110; a loop that goes on: notes/assumptions/9.md). -/
def Obligations.StepRunsDecodedInstruction : Prop :=
  ∀ (s d : State) (i : Instr) (rest : List Byte), DecodesFrom s d →
    decode s.cpuMode (fetchBytes 6 d).1 = .ok (i, rest) → i.isPrefix = false →
    step s = andThen (exec i (fetchBytes (6 - rest.length) d).2) finishStep

/-- A step on prefixes followed by the encoding of a well-formed instruction runs that instruction, with IP past its last
byte and the decode state the last prefix of each kind leaves. The prefix loop has no count limit: a call of `step` that reads
65536 prefixes answers the state inside the loop, nothing else changed, from which the next call goes on
(30_encoding.md R110, R111, R124; 60_exceptions.md R502; the cut at 65536 is the model's, notes/assumptions/9.md). -/
def Obligations.StepRunsPrefixedEncoding : Prop :=
  (∀ (s d : State) (ps : List Instr) (i : Instr), DecodesFrom s d →
    (∀ p ∈ ps, p.isPrefix = true) → ps.length < 65536 → i.isPrefix = false → i.wellFormed s.cpuMode = true →
    CodeAt s s.ip (ps.flatMap encode ++ encode i) →
    step s = andThen (exec i
      { d with
          ip := s.ip + BitVec.ofNat 16 (ps.flatMap encode ++ encode i).length,
          dec := ps.foldl prefixEffect d.dec }) finishStep) ∧
  (∀ (s d : State) (ps : List Instr), DecodesFrom s d → (∀ p ∈ ps, p.isPrefix = true) → ps.length = 65536 →
    CodeAt s s.ip (ps.flatMap encode) →
    step s = .next { d with dec := ps.foldl prefixEffect d.dec, signal := .decoding })

/-- Every step keeps the invariant (10_state.md R37, R38; 20_memory.md R76, R78). -/
def Obligations.StepKeepsInv : Prop := ∀ s t : State, Inv s → step s = .next t → Inv t

/-- No step changes the dispatch tables, the roster's kinds, the mode or the word wrap; a step that completes counts one
instruction and reports one cycle; a call that ends inside the prefix loop (notes/assumptions/9.md) counts none; `debug_break`
is left alone (20_memory.md R78; 10_state.md R45, R49; 60_exceptions.md R502, R532; 70_reset_and_hazards.md R575). -/
def Obligations.StepKeepsPlatformAndCounts : Prop :=
  (∀ s t : State, step s = .next t →
    t.memTable = s.memTable ∧ t.ioTable = s.ioTable ∧ t.cpuMode = s.cpuMode ∧ t.wordWrap = s.wordWrap ∧
    t.peripherals.map (·.kind) = s.peripherals.map (·.kind)) ∧
  (∀ s t : State, step s = .next t → t.debugBreak = s.debugBreak ∧
    if t.signal = .decoding then t.icount = s.icount else t.icount = s.icount + 1#64 ∧ t.cycles = 1)

/-- What an earlier step left in the decode state, the cycle counter and the signal has no influence on a step that begins
(10_state.md R46; 60_exceptions.md R501). A call that goes on with a prefix loop (notes/assumptions/9.md) begins no step. -/
def Obligations.StepIgnoresOldDecodeState : Prop :=
  ∀ (s t : State) (d : DecodeState) (c : Nat) (g : Signal),
    s.signal ≠ .decoding → g ≠ .decoding → step s = .next t → step { s with dec := d, cycles := c, signal := g } = .next t

/-- A latched trap: the step first takes interrupt 1 with the IP at the start of the step as the pushed IP, and then goes on
in the handler with the latch clear (60_exceptions.md R505, R506). -/
def Obligations.LatchedTrapTakesVectorOne : Prop :=
  ∀ s : State, s.signal ≠ .decoding → s.mem.wf = true → s.trap = true → NoHandler 1#8 s →
    ∃ u, Entered 1#8 s.ip s u ∧ step s = step { u with trap := false }

/-- With the latch clear, TF = 0 and IF = 1 the step asks the controller once and takes the vector it answers, with the IP at
the start of the step as the pushed IP, then goes on in the handler; with a trap latched, TF = 1 or IF = 0 the controller is
not asked (60_exceptions.md R502, R506, R507, R508). That a call which goes on with a prefix loop does not ask it, and that its
answers are a list that is used up, are the model's: notes/assumptions/9.md, 14.md. -/
def Obligations.ControllerIsPolledOnlyWhenInterruptsAreOpen : Prop :=
  (∀ (s : State) (v : Byte) (rest : List (Option Byte)), s.signal ≠ .decoding → s.mem.wf = true → s.trap = false →
    flag .trap s = false →
    flag .interrupt s = true → s.pic = some (some v :: rest) → NoHandler v s →
    ∃ u, Entered v s.ip { s with pic := some rest } u ∧ step s = step u) ∧
  (∀ s t : State, (s.signal = .decoding ∨ s.trap = true ∨ flag .trap s = true ∨ flag .interrupt s = false) → step s = .next t → t.pic = s.pic)

/-- With no error the tick phase runs every peripheral's coming tick, in registration order, and the step completes; the first
peripheral that returns an error `e` ends the step with `Error(e)`: the registers are the instruction's, memory and devices
are as the ticks up to that one left them, `icount` stays, and the peripherals after it are not ticked (60_exceptions.md R502
items 8 to 10, R526; 20_memory.md R99). That a tick is a list of bus accesses which leaves the registers alone, and the state
the fault carries, are the model's: notes/assumptions/14.md, 15.md, 24.md. -/
def Obligations.TickPhaseRunsPeripheralsUntilAnError : Prop :=
  (∀ s : State, (∀ p ∈ s.peripherals, p.nextTick.1.error = none) →
    ∃ t, finishStep s = .next t ∧ t.peripherals = s.peripherals.map (fun p => p.nextTick.2) ∧
      t.gpr = s.gpr ∧ t.seg = s.seg ∧ t.ip = s.ip ∧ t.flags = s.flags ∧ t.icount = s.icount + 1#64 ∧
      ∀ u, u = runBusOps (s.peripherals.flatMap fun p => p.nextTick.1.ops) s →
        t.mem = u.mem ∧ t.events = u.events ∧ t.draws = u.draws) ∧
  (∀ (s : State) (k e : Nat) (p : Peripheral), s.peripherals[k]? = some p → p.nextTick.1.error = some e →
    (∀ (j : Nat) (q : Peripheral), j < k → s.peripherals[j]? = some q → q.nextTick.1.error = none) →
    ∃ t, finishStep s = .fault (.peripheralError e t) ∧ t.gpr = s.gpr ∧ t.seg = s.seg ∧ t.ip = s.ip ∧
      t.flags = s.flags ∧ t.icount = s.icount ∧ (∀ j, k < j → t.peripherals[j]? = s.peripherals[j]?) ∧
      ∀ u, u = runBusOps ((s.peripherals.take (k + 1)).flatMap fun p => p.nextTick.1.ops) s →
        t.mem = u.mem ∧ t.events = u.events ∧ t.draws = u.draws)

/-! ### Whole-machine rules of an instruction -/

/-- With no software interrupt handlers and no REP-class prefix every instruction the mode has completes: none is refused and
none stops. In `V20` mode that is every row but those of `I8088` mode alone; in `I8088` mode every row but the illegal ones
and those of `V20` mode (00_scope.md R2; 60_exceptions.md R500, R527, R530). -/
def Obligations.EveryInstructionCompletes : Prop :=
  (∀ (i : Instr) (s : State), s.cpuMode = .v20 → s.softInt = [] → s.dec.rep = .off → i ∉ baselineIllegalRows →
    ∃ t, exec i s = .next t) ∧
  (∀ (i : Instr) (s : State), s.cpuMode = .i8088 → s.softInt = [] → s.dec.rep = .off → i ∉ illegalRows →
    i ∉ baselineIllegalRows → isV20Row i = false → ∃ t, exec i s = .next t)

/-- What no instruction changes: the latch, `debug_break`, the counters, the tables, the peripherals, the controller and the
parameters; the signal only by HLT, the decode state only by a prefix (10_state.md R43 to R49; 20_memory.md R78). -/
def Obligations.ExecKeepsHiddenState : Prop :=
  ∀ (i : Instr) (s t : State), exec i s = .next t →
    t.trap = s.trap ∧ t.debugBreak = s.debugBreak ∧ t.icount = s.icount ∧ t.cycles = s.cycles ∧
    t.memTable = s.memTable ∧ t.ioTable = s.ioTable ∧ t.peripherals = s.peripherals ∧ t.pic = s.pic ∧
    t.cpuMode = s.cpuMode ∧ t.wordWrap = s.wordWrap ∧ (i ≠ .hlt → t.signal = s.signal) ∧
    (i.isPrefix = false → t.dec = s.dec)

/-- Only POPF and IRET write the unassigned bits of FLAGS; only they, CLD and STD write DF; TF and IF change only by POPF,
IRET, CLI, STI and, both to 0, by the interrupt entry of a row that can enter one (10_state.md R38, R40; 60_exceptions.md
R510). Stated without software handlers, whose effects are the platform's. -/
def Obligations.ControlFlagsChangeOnlyByTheirInstructions : Prop :=
  ∀ (i : Instr) (s t : State), s.softInt = [] → exec i s = .next t → i ≠ .popf → i ≠ .iret →
    (∀ j ∈ [1, 3, 5, 12, 13, 14, 15], t.flags.getLsbD j = s.flags.getLsbD j) ∧
    (i ≠ .cld → i ≠ .std → flag .direction t = flag .direction s) ∧
    (flag .trap t = flag .trap s ∧ (i ≠ .cli → i ≠ .sti → flag .interrupt t = flag .interrupt s) ∨
      CanEnterInterrupt i ∧ flag .trap t = false ∧ flag .interrupt t = false ∧
        ∃ n ret, s.mem.wf = true → Entered n ret s t)

/-! ### Flag computations -/

/-- `AddFlags` and `SubFlags` in the terms of the exact sum and difference (41_arithmetic.md R262, R263). The reading by the
exact sum and difference is the rules' own inference from their formulas ("The formulas give CF = the carry out of bit
`w-1`", marked derived there). -/
def Obligations.AddAndSubFlagsSayTheExactResult : Prop :=
  (∀ (n : Nat) (a b : BitVec n) (c : Bool) (fl : Word), n = 8 ∨ n = 16 →
    (addFlags a b c fl).1.toNat = (a.toNat + b.toNat + c.toNat) % 2 ^ n ∧
    flagOf .carry (addFlags a b c fl).2 = decide (2 ^ n ≤ a.toNat + b.toNat + c.toNat) ∧
    flagOf .overflow (addFlags a b c fl).2 =
      decide (a.toInt + b.toInt + c.toNat < -(2 ^ (n - 1) : Int) ∨ (2 ^ (n - 1) : Int) ≤ a.toInt + b.toInt + c.toNat) ∧
    flagOf .aux (addFlags a b c fl).2 = decide (16 ≤ a.toNat % 16 + b.toNat % 16 + c.toNat) ∧
    flagOf .sign (addFlags a b c fl).2 = (addFlags a b c fl).1.msb ∧
    flagOf .zero (addFlags a b c fl).2 = decide ((addFlags a b c fl).1 = 0#n) ∧
    flagOf .parity (addFlags a b c fl).2 = parity ((addFlags a b c fl).1.setWidth 8) ∧
    ∀ j, j ∉ [0, 2, 4, 6, 7, 11] → (addFlags a b c fl).2.getLsbD j = fl.getLsbD j) ∧
  (∀ (n : Nat) (a b : BitVec n) (c : Bool) (fl : Word), n = 8 ∨ n = 16 →
    ((subFlags a b c fl).1.toNat : Int) = ((a.toNat : Int) - b.toNat - c.toNat) % 2 ^ n ∧
    flagOf .carry (subFlags a b c fl).2 = decide (a.toNat < b.toNat + c.toNat) ∧
    flagOf .overflow (subFlags a b c fl).2 =
      decide (a.toInt - b.toInt - c.toNat < -(2 ^ (n - 1) : Int) ∨ (2 ^ (n - 1) : Int) ≤ a.toInt - b.toInt - c.toNat) ∧
    flagOf .aux (subFlags a b c fl).2 = decide (a.toNat % 16 < b.toNat % 16 + c.toNat) ∧
    flagOf .sign (subFlags a b c fl).2 = (subFlags a b c fl).1.msb ∧
    flagOf .zero (subFlags a b c fl).2 = decide ((subFlags a b c fl).1 = 0#n) ∧
    flagOf .parity (subFlags a b c fl).2 = parity ((subFlags a b c fl).1.setWidth 8) ∧
    ∀ j, j ∉ [0, 2, 4, 6, 7, 11] → (subFlags a b c fl).2.getLsbD j = fl.getLsbD j)

/-- INC then DEC gives the value back, and neither writes CF; their other flags are those of adding and subtracting 1
(41_arithmetic.md R264). -/
def Obligations.IncThenDecIsIdentityAndKeepsCarry : Prop :=
  ∀ (n : Nat) (a : BitVec n) (fl : Word), n = 8 ∨ n = 16 →
    (incFlags a fl).1 = a + 1#n ∧ (decFlags a fl).1 = a - 1#n ∧
    (decFlags (incFlags a fl).1 (incFlags a fl).2).1 = a ∧
    flagOf .carry (incFlags a fl).2 = flagOf .carry fl ∧ flagOf .carry (decFlags a fl).2 = flagOf .carry fl ∧
    ∀ f, f ≠ .carry → flagOf f (incFlags a fl).2 = flagOf f (addFlags a 1#n false fl).2 ∧
      flagOf f (decFlags a fl).2 = flagOf f (subFlags a 1#n false fl).2

/-- AND, OR, XOR and TEST clear OF and CF, set SF, ZF and PF from the result, and keep AF and every other bit; PF is 1 when
the low byte of the result has an even number of 1 bits (42_logic_shift.md R320; 41_arithmetic.md R260, R261). -/
def Obligations.LogicFlagsKeepAuxCarry : Prop :=
  ∀ (n : Nat) (r : BitVec n) (fl : Word),
    flagOf .overflow (logicFlags r fl) = false ∧ flagOf .carry (logicFlags r fl) = false ∧
    flagOf .sign (logicFlags r fl) = r.msb ∧ flagOf .zero (logicFlags r fl) = decide (r = 0#n) ∧
    flagOf .parity (logicFlags r fl) = decide ((List.range 8).countP (fun k => r.getLsbD k) % 2 = 0) ∧
    parity (r.setWidth 8) = decide ((List.range 8).countP (fun k => r.getLsbD k) % 2 = 0) ∧
    ∀ j, j ∉ [0, 2, 6, 7, 11] → (logicFlags r fl).getLsbD j = fl.getLsbD j

/-- A flag reads what was written and no other bit of FLAGS changes; `Store` forces bit 1 alone; an 8-bit register is a half of
AX, CX, DX or BX and writing it changes its eight bits alone; the register codes, the places of the flags and the two halves of
a word (10_state.md R31, R32, R37, R38, R39; 20_memory.md R86). -/
def Obligations.AccessorsTouchOnlyTheirPart : Prop :=
  ((∀ (f : Flag) (b : Bool) (w : Word) (j : Nat), (putFlag f b w).getLsbD j = if j = f.bit then b else w.getLsbD j) ∧
  (∀ (f g : Flag) (b : Bool) (w : Word), flagOf g (putFlag f b w) = if g = f then b else flagOf g w) ∧
  (∀ (v : Word) (j : Nat), (storeWord v).getLsbD j = (decide (j = 1) || v.getLsbD j)) ∧
  (∀ v : Word, storeWord (storeWord v) = storeWord v)) ∧
  ((∀ (s : State) (r q : Reg8) (v : Byte), reg8 q (setReg8 r v s) = if q = r then v else reg8 q s) ∧
  (∀ (s : State) (r : Reg8) (v : Byte), SameRegsBut [wholeOf r] s (setReg8 r v s)) ∧
  (∀ s : State, s.gpr.ax = reg8 .ah s ++ reg8 .al s ∧ s.gpr.cx = reg8 .ch s ++ reg8 .cl s ∧
    s.gpr.dx = reg8 .dh s ++ reg8 .dl s ∧ s.gpr.bx = reg8 .bh s ++ reg8 .bl s) ∧
  (∀ c : BitVec 3, (Reg8.ofCode c).code = c ∧ (Reg16.ofCode c).code = c)) ∧
  ([Reg16.ax, .cx, .dx, .bx, .sp, .bp, .si, .di].map (·.code) = [0#3, 1#3, 2#3, 3#3, 4#3, 5#3, 6#3, 7#3] ∧
    [Reg8.al, .cl, .dl, .bl, .ah, .ch, .dh, .bh].map (·.code) = [0#3, 1#3, 2#3, 3#3, 4#3, 5#3, 6#3, 7#3] ∧
    [Flag.carry, .parity, .aux, .zero, .sign, .trap, .interrupt, .direction, .overflow].map (·.bit) =
      [0, 2, 4, 6, 7, 8, 9, 10, 11]) ∧
  (∀ (v : Word) (lo hi : Byte), v = hiByte v ++ loByte v ∧ wordOfBytes lo hi = hi ++ lo)

/-- The shifts and rotates by any count, in closed form; RCL and RCR rotate the `n + 1` bits of carry and value
(42_logic_shift.md R332 to R338). -/
def Obligations.ShiftsByCountInClosedForm : Prop :=
  ∀ (n : Nat) (v : BitVec n) (cf : Bool) (k : Nat), n = 8 ∨ n = 16 →
    shiftTimes .shl (k + 1) v cf = (v <<< (k + 1), decide (k + 1 ≤ n) && v.getLsbD (n - (k + 1))) ∧
    shiftTimes .shr (k + 1) v cf = (v >>> (k + 1), v.getLsbD k) ∧
    shiftTimes .sar (k + 1) v cf = (v.sshiftRight (k + 1), if k < n then v.getLsbD k else v.msb) ∧
    shiftTimes .rol (k + 1) v cf = (v.rotateLeft (k + 1), (v.rotateLeft (k + 1)).getLsbD 0) ∧
    shiftTimes .ror (k + 1) v cf = (v.rotateRight (k + 1), (v.rotateRight (k + 1)).msb) ∧
    (let r := shiftTimes .rcl k v cf; BitVec.ofBool r.2 ++ r.1 = (BitVec.ofBool cf ++ v).rotateLeft k) ∧
    (let r := shiftTimes .rcr k v cf; BitVec.ofBool r.2 ++ r.1 = (BitVec.ofBool cf ++ v).rotateRight k) ∧
    shiftTimes .rcl (n + 1) v cf = (v, cf) ∧ shiftTimes .rcr (n + 1) v cf = (v, cf) ∧
    (let r := shiftTimes .rcl k v cf; shiftTimes .rcr k r.1 r.2) = (v, cf)

/-! ### Registers, addresses, memory, ports, stack -/

/-- The linear address and the offset of every memory operand, and the value an operand reads, a register or the bytes at its
address (20_memory.md R70, R71, R72; 30_encoding.md R122, R123, R125). -/
def Obligations.AddressesWrapAndTakeTheirSegment : Prop :=
  (∀ seg off : Word, (lin seg off).toNat = (seg.toNat * 16 + off.toNat) % 2 ^ 20 ∧
    (makeAddress seg off).toNat = seg.toNat * 65536 + off.toNat) ∧
  (∀ (p : Word × Word) (n : Word), (addOffset p n).1 = p.1 ∧ (addOffset p n).2.toNat = (p.2.toNat + n.toNat) % 2 ^ 16) ∧
  (∀ (s : State) (b : EaBase) (d : Byte) (w : Word),
    (eaOffset (.disp0 b) s).toNat = (baseOffset b s).toNat ∧
    ((eaOffset (.disp8 b d) s).toNat : Int) = ((baseOffset b s).toNat + d.toInt) % 2 ^ 16 ∧
    (eaOffset (.disp16 b w) s).toNat = ((baseOffset b s).toNat + w.toNat) % 2 ^ 16 ∧ eaOffset (.direct w) s = w) ∧
  (∀ s : State, baseOffset .bxSi s = s.gpr.bx + s.gpr.si ∧ baseOffset .bxDi s = s.gpr.bx + s.gpr.di ∧
    baseOffset .bpSi s = s.gpr.bp + s.gpr.si ∧ baseOffset .bpDi s = s.gpr.bp + s.gpr.di ∧
    baseOffset .si s = s.gpr.si ∧ baseOffset .di s = s.gpr.di ∧ baseOffset .bp s = s.gpr.bp ∧
    baseOffset .bx s = s.gpr.bx) ∧
  (∀ (s : State) (m : MemOp) (d : Sreg) (r : Sreg),
    (s.dec.segOverride = some r → eaSegment m s = sreg r s ∧ segFor d s = sreg r s) ∧
    (s.dec.segOverride = none → eaSegment m s = sreg (eaDefault m) s ∧ segFor d s = sreg d s)) ∧
  (∀ (b : EaBase) (a w : Word) (d : Byte), eaDefault (.direct a) = .ds ∧
    eaDefault (.disp0 b) = (if b ∈ [.bpSi, .bpDi, .bp] then .ss else .ds) ∧
    eaDefault (.disp8 b d) = (if b ∈ [.bpSi, .bpDi, .bp] then .ss else .ds) ∧
    eaDefault (.disp16 b w) = (if b ∈ [.bpSi, .bpDi, .bp] then .ss else .ds)) ∧
  (∀ (s : State) (m : MemOp) (r : Reg8) (q : Reg16),
    loc8 (.reg r) s = .reg r ∧ value8 (.reg r) s = reg8 r s ∧ loc8 (.mem m) s = .mem (eaSegment m s) (eaOffset m s) ∧
    value8 (.mem m) s = (busRead8 (lin (eaSegment m s) (eaOffset m s)) s).1 ∧
    loc16 (.reg q) s = .reg q ∧ value16 (.reg q) s = reg16 q s ∧ loc16 (.mem m) s = .mem (eaSegment m s) (eaOffset m s) ∧
    value16 (.mem m) s = (memRead16 (eaSegment m s) (eaOffset m s) s).1)

/-- One byte access of the memory bus, for the dummy device and the three kinds; a word access is two of them, low byte first,
whatever devices the bytes lie on, and the two readings of `P_WORD_WRAP` differ only at offset 0xFFFF (20_memory.md R80, R81,
R82, R86 to R89, R92). -/
def Obligations.MemoryAccessByDeviceKind : Prop :=
  (∀ (s : State) (a b : Addr) (v : Byte), s.mem.wf = true →
    (kindAt s a = none → busRead8 a s = (0xFF#8, s) ∧ busWrite8 a v s = s) ∧
    (kindAt s a = some .ram → (busRead8 a (busWrite8 a v s)).1 = v ∧ (busRead8 a s).2 = s ∧
      SameSystem s (busWrite8 a v s) ∧ Quiet s (busWrite8 a v s)) ∧
    (kindAt s a = some .rom → busWrite8 a v s = s ∧ (busRead8 a s).2 = s) ∧
    (kindAt s a = some .opaqueDev →
      busWrite8 a v s = { s with events := .memWrite (slotAt s.memTable a.toNat) a v :: s.events } ∧
      (busRead8 a s).2.mem = s.mem ∧
      (busRead8 a s).2.events = .memRead (slotAt s.memTable a.toNat) a (busRead8 a s).1 :: s.events) ∧
    (b ≠ a → kindAt s b ≠ some .opaqueDev → (busRead8 b (busWrite8 a v s)).1 = (busRead8 b s).1)) ∧
  ((∀ (s : State) (seg off v : Word), s.mem.wf = true →
    IsRam s (lin seg off) → IsRam s (hiAddr s.wordWrap seg off) →
    (memRead16 seg off (memWrite16 seg off v s)).1 = v ∧
    (memWrite16 seg off v s).mem.read (lin seg off).toNat = loByte v ∧
    (memWrite16 seg off v s).mem.read (hiAddr s.wordWrap seg off).toNat = hiByte v ∧
    ∀ a : Addr, a ≠ lin seg off → a ≠ hiAddr s.wordWrap seg off →
      (memWrite16 seg off v s).mem.read a.toNat = s.mem.read a.toNat) ∧
  (∀ (s : State) (seg off v : Word) (lo hi : Addr), lo = lin seg off → hi = hiAddr s.wordWrap seg off →
    memRead16 seg off s = (wordOfBytes (busRead8 lo s).1 (busRead8 hi (busRead8 lo s).2).1, (busRead8 hi (busRead8 lo s).2).2) ∧
    memWrite16 seg off v s = busWrite8 hi (hiByte v) (busWrite8 lo (loByte v) s) ∧
    (kindAt s lo = none → kindAt s hi = none → memRead16 seg off s = (0xFFFF#16, s) ∧ memWrite16 seg off v s = s) ∧
    (kindAt s lo = some .rom → kindAt s hi = some .rom →
      memRead16 seg off s = (wordOfBytes (s.mem.read lo.toNat) (s.mem.read hi.toNat), s) ∧ memWrite16 seg off v s = s) ∧
    (kindAt s lo = some .opaqueDev → kindAt s hi = some .opaqueDev →
      memWrite16 seg off v s = { s with
        events := .memWrite (slotAt s.memTable hi.toNat) hi (hiByte v)
          :: .memWrite (slotAt s.memTable lo.toNat) lo (loByte v) :: s.events } ∧
      (memRead16 seg off s).2.mem = s.mem ∧
      (memRead16 seg off s).2.events = .memRead (slotAt s.memTable hi.toNat) hi (hiByte (memRead16 seg off s).1)
        :: .memRead (slotAt s.memTable lo.toNat) lo (loByte (memRead16 seg off s).1) :: s.events)) ∧
  (∀ seg off : Word, hiAddr .segment seg off = lin seg (off + 1#16)) ∧
  (∀ seg off : Word, hiAddr .linear seg off = hiAddr .segment seg off ↔ off ≠ 0xFFFF#16))

/-- Byte and word accesses of the ports: 0xFF from an unmapped port; a word access is two byte accesses, of the port and of the
port after it, low byte first, whatever is mapped at them (20_memory.md R83, R90, R91; 40_data_transfer.md R232). -/
def Obligations.PortAccessLowPortFirst : Prop :=
  ∀ (s : State) (p : Word) (v : Word) (b : Byte),
    (slotAt s.ioTable p.toNat = 0 → ioIn8 p s = (0xFF#8, s) ∧ ioOut8 p b s = s) ∧
    (∀ k, slotAt s.ioTable p.toNat = k → k ≠ 0 →
      ioOut8 p b s = { s with events := .portWrite k p b :: s.events } ∧
      (ioIn8 p s).2.events = .portRead k p (ioIn8 p s).1 :: s.events ∧ (ioIn8 p s).2.mem = s.mem) ∧
    (ioIn16 p s = (wordOfBytes (ioIn8 p s).1 (ioIn8 (p + 1#16) (ioIn8 p s).2).1, (ioIn8 (p + 1#16) (ioIn8 p s).2).2) ∧
      ioOut16 p v s = ioOut8 (p + 1#16) (hiByte v) (ioOut8 p (loByte v) s)) ∧
    (∀ k l, slotAt s.ioTable p.toNat = k → slotAt s.ioTable (p + 1#16).toNat = l →
      (k = 0 → l = 0 → ioIn16 p s = (0xFFFF#16, s) ∧ ioOut16 p v s = s) ∧
      (k = 0 → l ≠ 0 → ioOut16 p v s = { s with events := .portWrite l (p + 1#16) (hiByte v) :: s.events } ∧
        loByte (ioIn16 p s).1 = 0xFF#8 ∧
        (ioIn16 p s).2.events = .portRead l (p + 1#16) (hiByte (ioIn16 p s).1) :: s.events) ∧
      (k ≠ 0 → l = 0 → ioOut16 p v s = { s with events := .portWrite k p (loByte v) :: s.events } ∧
        hiByte (ioIn16 p s).1 = 0xFF#8 ∧
        (ioIn16 p s).2.events = .portRead k p (loByte (ioIn16 p s).1) :: s.events) ∧
      (k ≠ 0 → l ≠ 0 →
        ioOut16 p v s = { s with
          events := .portWrite l (p + 1#16) (hiByte v) :: .portWrite k p (loByte v) :: s.events } ∧
        (ioIn16 p s).2.events = .portRead l (p + 1#16) (hiByte (ioIn16 p s).1)
          :: .portRead k p (loByte (ioIn16 p s).1) :: s.events))

/-- A pop after a push gives the word back and restores SP (20_memory.md R94, R95). -/
def Obligations.PopUndoesPush : Prop :=
  ∀ (s : State) (v : Word), s.mem.wf = true → (∀ c ∈ wordCells s.wordWrap s.seg.ss (s.gpr.sp - 2#16) v, IsRam s c.1) →
    (pop16 (push16 v s)).1 = v ∧ (pop16 (push16 v s)).2.gpr = s.gpr ∧
    Stored (wordCells s.wordWrap s.seg.ss (s.gpr.sp - 2#16) v) s (pop16 (push16 v s)).2

/-- The accesses an `Opaque` device sees: a memory destination of an ALU row is read once and then written once, XCHG reads
and then writes, MOV to memory writes without a read, CMP and TEST only read, and a shift by 0 only reads
(41_arithmetic.md R265; 40_data_transfer.md R201, R212; 42_logic_shift.md R324, R331). -/
def Obligations.OpaqueDeviceSeesEachAccessOnce : Prop :=
  ∀ (s : State) (m : MemOp) (g : Reg8) (op : AluOp) (sh : ShiftOp) (a : Addr) (k : Nat),
    a = lin (eaSegment m s) (eaOffset m s) → kindAt s a = some .opaqueDev → k = slotAt s.memTable a.toNat →
    (op ≠ .cmp → ∃ t, exec (aluRmReg8 op (.mem m) g) s = .next t ∧
      t.events = .memWrite k a (aluFlags op (value8 (.mem m) s) (reg8 g s) s.flags).1
        :: .memRead k a (value8 (.mem m) s) :: s.events) ∧
    (∃ t, exec (.xchgEbGb (.mem m) g) s = .next t ∧
      t.events = .memWrite k a (reg8 g s) :: .memRead k a (value8 (.mem m) s) :: s.events) ∧
    (∃ t, exec (.movEbGb (.mem m) g) s = .next t ∧ t.events = .memWrite k a (reg8 g s) :: s.events) ∧
    (∃ t, exec (.cmpEbGb (.mem m) g) s = .next t ∧ t.events = .memRead k a (value8 (.mem m) s) :: s.events) ∧
    (∃ t, exec (.testEbGb (.mem m) g) s = .next t ∧ t.events = .memRead k a (value8 (.mem m) s) :: s.events) ∧
    (effectiveCount s.cpuMode (reg8 .cl s) = 0 → ∃ t, exec (shiftByClR8 sh (.mem m)) s = .next t ∧
      t.events = .memRead k a (value8 (.mem m) s) :: s.events)

/-! ### Data transfer -/

/-- MOV on bytes and words, the rows with a segment register among them (40_data_transfer.md R201 to R206). -/
def Obligations.MovRows : Prop :=
  (∀ (s : State) (e : RM Reg8) (g : Reg8) (a : Word) (v : Byte), s.mem.wf = true →
    (∃ t, exec (.movEbGb e g) s = .next t ∧ MovedByte (loc8 e s) (reg8 g s) s t) ∧
    (∃ t, exec (.movGbEb g e) s = .next t ∧ MovedByte (.reg g) (value8 e s) s t) ∧
    (∃ t, exec (.movAlOb a) s = .next t ∧ MovedByte (.reg .al) (memRead8 (segFor .ds s) a s).1 s t) ∧
    (∃ t, exec (.movObAl a) s = .next t ∧ MovedByte (.mem (segFor .ds s) a) (reg8 .al s) s t) ∧
    (∃ t, exec (.movR8Ib g v) s = .next t ∧ MovedByte (.reg g) v s t ∧ Quiet s t) ∧
    (∃ t, exec (.movEbIb e v) s = .next t ∧ MovedByte (loc8 e s) v s t)) ∧
  (∀ (s : State) (e : RM Reg16) (g : Reg16) (a : Word) (v : Word), s.mem.wf = true →
    (∃ t, exec (.movEvGv e g) s = .next t ∧ MovedWord (loc16 e s) (reg16 g s) s t) ∧
    (∃ t, exec (.movGvEv g e) s = .next t ∧ MovedWord (.reg g) (value16 e s) s t) ∧
    (∃ t, exec (.movEwEs e) s = .next t ∧ MovedWord (loc16 e s) s.seg.es s t) ∧
    (∃ t, exec (.movEwCs e) s = .next t ∧ MovedWord (loc16 e s) s.seg.cs s t) ∧
    (∃ t, exec (.movEwSs e) s = .next t ∧ MovedWord (loc16 e s) s.seg.ss s t) ∧
    (∃ t, exec (.movEwDs e) s = .next t ∧ MovedWord (loc16 e s) s.seg.ds s t) ∧
    (∃ t, exec (.movEsEw e) s = .next t ∧ MovedWord (.sreg .es) (value16 e s) s t) ∧
    (∃ t, exec (.movSsEw e) s = .next t ∧ MovedWord (.sreg .ss) (value16 e s) s t) ∧
    (∃ t, exec (.movDsEw e) s = .next t ∧ MovedWord (.sreg .ds) (value16 e s) s t) ∧
    (∃ t, exec (.movAxOv a) s = .next t ∧ MovedWord (.reg .ax) (memRead16 (segFor .ds s) a s).1 s t) ∧
    (∃ t, exec (.movOvAx a) s = .next t ∧ MovedWord (.mem (segFor .ds s) a) s.gpr.ax s t) ∧
    (∃ t, exec (.movR16Iw g v) s = .next t ∧ MovedWord (.reg g) v s t ∧ Quiet s t) ∧
    (∃ t, exec (.movEvIw e v) s = .next t ∧ MovedWord (loc16 e s) v s t))

/-- XCHG exchanges its operands, whatever they are, and NOP changes nothing (40_data_transfer.md R211, R212, R213). -/
def Obligations.XchgRowsExchange : Prop :=
  (∀ (s : State) (r g : Reg8), ∃ t, exec (.xchgEbGb (.reg r) g) s = .next t ∧ SameSystem s t ∧ Quiet s t ∧ t.ip = s.ip ∧
    t.flags = s.flags ∧ t.seg = s.seg ∧ t.mem = s.mem ∧ SameRegsBut [wholeOf r, wholeOf g] s t ∧
    ∀ q, reg8 q t = if q = g then reg8 r s else if q = r then reg8 g s else reg8 q s) ∧
  (∀ (s : State) (m : MemOp) (g : Reg8), s.mem.wf = true →
    ∃ t, exec (.xchgEbGb (.mem m) g) s = .next t ∧ SameSystem s t ∧ t.ip = s.ip ∧ t.flags = s.flags ∧ t.seg = s.seg ∧
      Stored [(lin (eaSegment m s) (eaOffset m s), reg8 g s)] s t ∧ SameRegsBut [wholeOf g] s t ∧
      ∀ q, reg8 q t = if q = g then value8 (.mem m) s else reg8 q s) ∧
  (∀ (s : State) (r g : Reg16), ∃ t, exec (.xchgEvGv (.reg r) g) s = .next t ∧ SameSystem s t ∧ Quiet s t ∧ t.ip = s.ip ∧
    t.flags = s.flags ∧ t.seg = s.seg ∧ t.mem = s.mem ∧
    ∀ q, reg16 q t = if q = g then reg16 r s else if q = r then reg16 g s else reg16 q s) ∧
  (∀ (s : State) (m : MemOp) (g : Reg16), s.mem.wf = true →
    ∃ t, exec (.xchgEvGv (.mem m) g) s = .next t ∧ SameSystem s t ∧ t.ip = s.ip ∧ t.flags = s.flags ∧ t.seg = s.seg ∧
      Stored (wordCells s.wordWrap (eaSegment m s) (eaOffset m s) (reg16 g s)) s t ∧
      ∀ q, reg16 q t = if q = g then value16 (.mem m) s else reg16 q s) ∧
  (∀ (s : State) (r : Reg16), ∃ t, exec (.xchgAxR16 r) s = .next t ∧ SameSystem s t ∧ Quiet s t ∧ t.ip = s.ip ∧
    t.flags = s.flags ∧ t.seg = s.seg ∧ t.mem = s.mem ∧
    ∀ q, reg16 q t = if q = r then s.gpr.ax else if q = .ax then reg16 r s else reg16 q s) ∧
  (∀ s : State, exec .nop s = .next s)

/-- LEA loads the offset and touches no memory; LDS and LES load a register and a segment register from a far pointer
(40_data_transfer.md R220, R221, R222; 30_encoding.md R126). -/
def Obligations.AddressLoadRows : Prop :=
  ∀ (s : State) (g : Reg16) (m : MemOp),
    (∃ t, exec (.leaGvM g m) s = .next t ∧ MovedWord (.reg g) (eaOffset m s) s t ∧ Quiet s t) ∧
    (∃ t, exec (.ldsGvMp g m) s = .next t ∧ SameSystem s t ∧ t.ip = s.ip ∧ t.flags = s.flags ∧ t.mem = s.mem ∧
      (∀ q, reg16 q t = if q = g then (memRead16 (eaSegment m s) (eaOffset m s) s).1 else reg16 q s) ∧
      (∀ q, sreg q t = if q = .ds then (memRead16 (eaSegment m s) (eaOffset m s + 2#16)
        (memRead16 (eaSegment m s) (eaOffset m s) s).2).1 else sreg q s)) ∧
    (∃ t, exec (.lesGvMp g m) s = .next t ∧ SameSystem s t ∧ t.ip = s.ip ∧ t.flags = s.flags ∧ t.mem = s.mem ∧
      (∀ q, reg16 q t = if q = g then (memRead16 (eaSegment m s) (eaOffset m s) s).1 else reg16 q s) ∧
      (∀ q, sreg q t = if q = .es then (memRead16 (eaSegment m s) (eaOffset m s + 2#16)
        (memRead16 (eaSegment m s) (eaOffset m s) s).2).1 else sreg q s))

/-- The push rows; PUSH SP pushes the decremented SP (40_data_transfer.md R214, R215, R216, R228; 46_v20_extensions.md R473,
R474). -/
def Obligations.PushRows : Prop :=
  ∀ (s : State) (r : Reg16) (e : RM Reg16) (v : Word) (b : Byte), s.mem.wf = true →
    (∃ t, exec (.pushR16 r) s = .next t ∧ Pushed (if r = .sp then s.gpr.sp - 2#16 else reg16 r s) s t) ∧
    (∃ t, exec (.pushEv e) s = .next t ∧ Pushed (if e = .reg .sp then s.gpr.sp - 2#16 else value16 e s) s t) ∧
    (∃ t, exec .pushEs s = .next t ∧ Pushed s.seg.es s t) ∧ (∃ t, exec .pushCs s = .next t ∧ Pushed s.seg.cs s t) ∧
    (∃ t, exec .pushSs s = .next t ∧ Pushed s.seg.ss s t) ∧ (∃ t, exec .pushDs s = .next t ∧ Pushed s.seg.ds s t) ∧
    (∃ t, exec .pushf s = .next t ∧ Pushed s.flags s t) ∧
    (s.cpuMode = .v20 → (∃ t, exec (.pushIw v) s = .next t ∧ Pushed v s t) ∧
      (∃ t, exec (.pushIbS b) s = .next t ∧ Pushed (b.signExtend 16) s t))

/-- The pop rows; POP SP leaves the popped word, POP to memory resolves its operand before SP changes
(40_data_transfer.md R217, R218, R219, R229). -/
def Obligations.PopRows : Prop :=
  ∀ (s : State) (r : Reg16) (m : MemOp) (v : Word), s.mem.wf = true → v = (memRead16 s.seg.ss s.gpr.sp s).1 →
    (∃ t, exec (.popR16 r) s = .next t ∧ SameSystem s t ∧ t.ip = s.ip ∧ t.flags = s.flags ∧ t.seg = s.seg ∧ t.mem = s.mem ∧
      ∀ q, reg16 q t = if q = r then v else if q = .sp then s.gpr.sp + 2#16 else reg16 q s) ∧
    (∃ t, exec (.popEv (.reg r)) s = .next t ∧ SameSystem s t ∧ t.ip = s.ip ∧ t.flags = s.flags ∧ t.seg = s.seg ∧
      t.mem = s.mem ∧ ∀ q, reg16 q t = if q = r then v else if q = .sp then s.gpr.sp + 2#16 else reg16 q s) ∧
    (∃ t, exec (.popEv (.mem m)) s = .next t ∧ SameSystem s t ∧ t.ip = s.ip ∧ t.flags = s.flags ∧ t.seg = s.seg ∧
      Stored (wordCells s.wordWrap (eaSegment m s) (eaOffset m s) v) s t ∧
      SameRegsBut [.sp] s t ∧ t.gpr.sp = s.gpr.sp + 2#16) ∧
    (∀ p ∈ [(Instr.popEs, Sreg.es), (Instr.popSs, Sreg.ss), (Instr.popDs, Sreg.ds)],
      ∃ t, exec p.1 s = .next t ∧ SameSystem s t ∧ t.ip = s.ip ∧ t.flags = s.flags ∧ t.mem = s.mem ∧
        SameRegsBut [.sp] s t ∧ t.gpr.sp = s.gpr.sp + 2#16 ∧ ∀ q, sreg q t = if q = p.2 then v else sreg q s) ∧
    (∃ t, exec .popf s = .next t ∧ SameSystem s t ∧ t.ip = s.ip ∧ t.seg = s.seg ∧ t.mem = s.mem ∧
      SameRegsBut [.sp] s t ∧ t.gpr.sp = s.gpr.sp + 2#16 ∧ t.flags = v ||| 0x0002#16)

/-- LAHF, SAHF, CBW, CWD and XLAT (40_data_transfer.md R224, R226, R230, R238, R239). -/
def Obligations.FlagTransferAndConversionRows : Prop :=
  ∀ s : State,
    (∃ t, exec .lahf s = .next t ∧ MovedByte (.reg .ah) (loByte s.flags) s t ∧ Quiet s t) ∧
    (∃ t, exec .sahf s = .next t ∧ SameSystem s t ∧ Quiet s t ∧ t.ip = s.ip ∧ SameData s t ∧
      ∀ j, t.flags.getLsbD j = if j ∈ [0, 2, 4, 6, 7] then (reg8 .ah s).getLsbD j else s.flags.getLsbD j) ∧
    (∃ t, exec .cbw s = .next t ∧ MovedWord (.reg .ax) ((reg8 .al s).signExtend 16) s t ∧ Quiet s t) ∧
    (∃ t, exec .cwd s = .next t ∧ Quiet s t ∧
      MovedWord (.reg .dx) (if s.gpr.ax.getLsbD 15 then 0xFFFF#16 else 0x0000#16) s t) ∧
    (∃ t, exec .xlat s = .next t ∧
      MovedByte (.reg .al) (memRead8 (segFor .ds s) (s.gpr.bx + (reg8 .al s).setWidth 16) s).1 s t)

/-- IN writes the accumulator with what the port answers; OUT changes nothing but what the device sees (40_data_transfer.md
R232 to R235). -/
def Obligations.PortRows : Prop :=
  (∀ (s : State) (v : Byte),
    (∃ t, exec (.inAlIb v) s = .next t ∧ MovedByte (.reg .al) (ioIn8 (v.setWidth 16) s).1 s t ∧
      t.events = (ioIn8 (v.setWidth 16) s).2.events) ∧
    (∃ t, exec .inAlDx s = .next t ∧ MovedByte (.reg .al) (ioIn8 s.gpr.dx s).1 s t ∧
      t.events = (ioIn8 s.gpr.dx s).2.events) ∧
    (∃ t, exec (.inAxIb v) s = .next t ∧ MovedWord (.reg .ax) (ioIn16 (v.setWidth 16) s).1 s t ∧
      t.events = (ioIn16 (v.setWidth 16) s).2.events) ∧
    (∃ t, exec .inAxDx s = .next t ∧ MovedWord (.reg .ax) (ioIn16 s.gpr.dx s).1 s t ∧
      t.events = (ioIn16 s.gpr.dx s).2.events)) ∧
  (∀ (s : State) (p : Byte),
    (∃ t, exec (.outIbAl p) s = .next t ∧ t = { s with events := t.events } ∧
      t.events = (ioOut8 (p.setWidth 16) (loByte s.gpr.ax) s).events) ∧
    (∃ t, exec .outDxAl s = .next t ∧ t = { s with events := t.events } ∧
      t.events = (ioOut8 s.gpr.dx (loByte s.gpr.ax) s).events) ∧
    (∃ t, exec (.outIbAx p) s = .next t ∧ t = { s with events := t.events } ∧
      t.events = (ioOut16 (p.setWidth 16) s.gpr.ax s).events) ∧
    (∃ t, exec .outDxAx s = .next t ∧ t = { s with events := t.events } ∧ t.events = (ioOut16 s.gpr.dx s.gpr.ax s).events))

/-! ### Arithmetic and logic -/

/-- The eighty rows of ADD, OR, ADC, SBB, AND, SUB, XOR, CMP on bytes and words; 83h sign-extends its byte; last,
the helper that gives each operation its result and FLAGS (41_arithmetic.md R265 to R270; 42_logic_shift.md R321 to R323;
30_encoding.md R116). -/
def Obligations.AluRows : Prop :=
  (∀ (s : State) (op : AluOp) (e : RM Reg8) (g : Reg8) (v : Byte), s.mem.wf = true →
    (∃ t, exec (aluRmReg8 op e g) s = .next t ∧ AluByteDone op (loc8 e s) (value8 e s) (reg8 g s) s t) ∧
    (∃ t, exec (aluRegRm8 op g e) s = .next t ∧ AluByteDone op (.reg g) (reg8 g s) (value8 e s) s t) ∧
    (∃ t, exec (aluAccImm8 op v) s = .next t ∧ AluByteDone op (.reg .al) (reg8 .al s) v s t ∧ Quiet s t) ∧
    (∃ t, exec (aluRmImm8 op e v) s = .next t ∧ AluByteDone op (loc8 e s) (value8 e s) v s t) ∧
    (∃ t, exec (aluRmImm8Alias op e v) s = .next t ∧ AluByteDone op (loc8 e s) (value8 e s) v s t)) ∧
  (∀ (s : State) (op : AluOp) (e : RM Reg16) (g : Reg16) (v : Word) (b : Byte), s.mem.wf = true →
    (∃ t, exec (aluRmReg16 op e g) s = .next t ∧ AluWordDone op (loc16 e s) (value16 e s) (reg16 g s) s t) ∧
    (∃ t, exec (aluRegRm16 op g e) s = .next t ∧ AluWordDone op (.reg g) (reg16 g s) (value16 e s) s t) ∧
    (∃ t, exec (aluAccImm16 op v) s = .next t ∧ AluWordDone op (.reg .ax) s.gpr.ax v s t ∧ Quiet s t) ∧
    (∃ t, exec (aluRmImm16 op e v) s = .next t ∧ AluWordDone op (loc16 e s) (value16 e s) v s t) ∧
    (∃ t, exec (aluRmImmSx op e b) s = .next t ∧ AluWordDone op (loc16 e s) (value16 e s) (b.signExtend 16) s t)) ∧
  (∀ (n : Nat) (a b : BitVec n) (fl : Word),
    aluFlags .add a b fl = addFlags a b false fl ∧ aluFlags .adc a b fl = addFlags a b (flagOf .carry fl) fl ∧
    aluFlags .sub a b fl = subFlags a b false fl ∧ aluFlags .sbb a b fl = subFlags a b (flagOf .carry fl) fl ∧
    aluFlags .cmp a b fl = subFlags a b false fl ∧ aluFlags .and a b fl = (a &&& b, logicFlags (a &&& b) fl) ∧
    aluFlags .or a b fl = (a ||| b, logicFlags (a ||| b) fl) ∧ aluFlags .xor a b fl = (a ^^^ b, logicFlags (a ^^^ b) fl))

/-- INC, DEC, NEG and NOT (41_arithmetic.md R271, R272, R273; 42_logic_shift.md R325): the value written, and FLAGS by
`IncFlags`, `DecFlags`, `SubFlags(0, a)` and none. -/
def Obligations.UnaryRows : Prop :=
  ∀ (s : State) (e : RM Reg8) (f : RM Reg16) (r : Reg16), s.mem.wf = true →
    (∃ t, exec (.incR16 r) s = .next t ∧ SameSystem s t ∧ Quiet s t ∧ t.ip = s.ip ∧
      t.flags = (incFlags (reg16 r s) s.flags).2 ∧ PutWord (.reg r) (reg16 r s + 1#16) s t) ∧
    (∃ t, exec (.decR16 r) s = .next t ∧ SameSystem s t ∧ Quiet s t ∧ t.ip = s.ip ∧
      t.flags = (decFlags (reg16 r s) s.flags).2 ∧ PutWord (.reg r) (reg16 r s - 1#16) s t) ∧
    (∃ t, exec (.incEb e) s = .next t ∧ SameSystem s t ∧ t.ip = s.ip ∧
      t.flags = (incFlags (value8 e s) s.flags).2 ∧ PutByte (loc8 e s) (value8 e s + 1#8) s t) ∧
    (∃ t, exec (.decEb e) s = .next t ∧ SameSystem s t ∧ t.ip = s.ip ∧
      t.flags = (decFlags (value8 e s) s.flags).2 ∧ PutByte (loc8 e s) (value8 e s - 1#8) s t) ∧
    (∃ t, exec (.negEb e) s = .next t ∧ SameSystem s t ∧ t.ip = s.ip ∧
      t.flags = (subFlags 0#8 (value8 e s) false s.flags).2 ∧ PutByte (loc8 e s) (-(value8 e s)) s t) ∧
    (∃ t, exec (.notEb e) s = .next t ∧ SameSystem s t ∧ t.ip = s.ip ∧
      t.flags = s.flags ∧ PutByte (loc8 e s) (~~~(value8 e s)) s t) ∧
    (∃ t, exec (.incEv f) s = .next t ∧ SameSystem s t ∧ t.ip = s.ip ∧
      t.flags = (incFlags (value16 f s) s.flags).2 ∧ PutWord (loc16 f s) (value16 f s + 1#16) s t) ∧
    (∃ t, exec (.decEv f) s = .next t ∧ SameSystem s t ∧ t.ip = s.ip ∧
      t.flags = (decFlags (value16 f s) s.flags).2 ∧ PutWord (loc16 f s) (value16 f s - 1#16) s t) ∧
    (∃ t, exec (.negEv f) s = .next t ∧ SameSystem s t ∧ t.ip = s.ip ∧
      t.flags = (subFlags 0#16 (value16 f s) false s.flags).2 ∧ PutWord (loc16 f s) (-(value16 f s)) s t) ∧
    (∃ t, exec (.notEv f) s = .next t ∧ SameSystem s t ∧ t.ip = s.ip ∧
      t.flags = s.flags ∧ PutWord (loc16 f s) (~~~(value16 f s)) s t)

/-- The six rows of TEST write nothing but FLAGS, those of the AND (42_logic_shift.md R324). -/
def Obligations.TestRows : Prop :=
  ∀ (s : State) (e : RM Reg8) (f : RM Reg16) (g : Reg8) (h : Reg16) (b : Byte) (w : Word),
    (∃ t, exec (.testEbGb e g) s = .next t ∧ SameSystem s t ∧ t.ip = s.ip ∧ SameData s t ∧
      t.flags = logicFlags (value8 e s &&& reg8 g s) s.flags) ∧
    (∃ t, exec (.testEvGv f h) s = .next t ∧ SameSystem s t ∧ t.ip = s.ip ∧ SameData s t ∧
      t.flags = logicFlags (value16 f s &&& reg16 h s) s.flags) ∧
    (∃ t, exec (.testAlIb b) s = .next t ∧ SameSystem s t ∧ Quiet s t ∧ t.ip = s.ip ∧ SameData s t ∧
      t.flags = logicFlags (reg8 .al s &&& b) s.flags) ∧
    (∃ t, exec (.testAxIw w) s = .next t ∧ SameSystem s t ∧ Quiet s t ∧ t.ip = s.ip ∧ SameData s t ∧
      t.flags = logicFlags (s.gpr.ax &&& w) s.flags) ∧
    (∃ t, exec (.testEbIb e b) s = .next t ∧ SameSystem s t ∧ t.ip = s.ip ∧ SameData s t ∧
      t.flags = logicFlags (value8 e s &&& b) s.flags) ∧
    (∃ t, exec (.testEvIw f w) s = .next t ∧ SameSystem s t ∧ t.ip = s.ip ∧ SameData s t ∧
      t.flags = logicFlags (value16 f s &&& w) s.flags)

/-- MUL and IMUL: the exact product, CF and OF when it does not fit the low half; SF, ZF, AF and PF are free
(41_arithmetic.md R280, R281). -/
def Obligations.MultiplyRows : Prop :=
  ∀ (s : State) (e : RM Reg8) (f : RM Reg16),
    (∃ t, exec (.mulEb e) s = .next t ∧ SameSystem s t ∧ t.ip = s.ip ∧ t.seg = s.seg ∧ t.mem = s.mem ∧
      SameRegsBut [.ax] s t ∧ t.gpr.ax.toNat = (reg8 .al s).toNat * (value8 e s).toNat ∧
      flag .carry t = decide (reg8 .ah t ≠ 0#8) ∧ flag .overflow t = decide (reg8 .ah t ≠ 0#8) ∧
      SameFlagsBut [.carry, .overflow, .sign, .zero, .aux, .parity] s t) ∧
    (∃ t, exec (.mulEv f) s = .next t ∧ SameSystem s t ∧ t.ip = s.ip ∧ t.seg = s.seg ∧ t.mem = s.mem ∧
      SameRegsBut [.ax, .dx] s t ∧ t.gpr.dx.toNat * 65536 + t.gpr.ax.toNat = s.gpr.ax.toNat * (value16 f s).toNat ∧
      flag .carry t = decide (t.gpr.dx ≠ 0#16) ∧ flag .overflow t = decide (t.gpr.dx ≠ 0#16) ∧
      SameFlagsBut [.carry, .overflow, .sign, .zero, .aux, .parity] s t) ∧
    (∃ t, exec (.imulEb e) s = .next t ∧ SameSystem s t ∧ t.ip = s.ip ∧ t.seg = s.seg ∧ t.mem = s.mem ∧
      SameRegsBut [.ax] s t ∧ t.gpr.ax.toInt = (reg8 .al s).toInt * (value8 e s).toInt ∧
      flag .carry t = decide (t.gpr.ax.toInt < -128 ∨ 127 < t.gpr.ax.toInt) ∧ flag .overflow t = flag .carry t ∧
      SameFlagsBut [.carry, .overflow, .sign, .zero, .aux, .parity] s t) ∧
    (∃ t, exec (.imulEv f) s = .next t ∧ SameSystem s t ∧ t.ip = s.ip ∧ t.seg = s.seg ∧ t.mem = s.mem ∧
      SameRegsBut [.ax, .dx] s t ∧ (t.gpr.dx ++ t.gpr.ax).toInt = s.gpr.ax.toInt * (value16 f s).toInt ∧
      flag .carry t = decide ((t.gpr.dx ++ t.gpr.ax).toInt < -32768 ∨ 32767 < (t.gpr.dx ++ t.gpr.ax).toInt) ∧
      flag .overflow t = flag .carry t ∧ SameFlagsBut [.carry, .overflow, .sign, .zero, .aux, .parity] s t)

/-- DIV and IDIV when the divisor is not 0 and the quotient fits: quotient and remainder; the status flags are free
(41_arithmetic.md R282, R283). -/
def Obligations.DivideRows : Prop :=
  ∀ (s : State) (e : RM Reg8) (f : RM Reg16),
    (value8 e s ≠ 0#8 → s.gpr.ax.toNat / (value8 e s).toNat ≤ 0xFF →
      ∃ t, exec (.divEb e) s = .next t ∧ SameSystem s t ∧ t.ip = s.ip ∧ t.seg = s.seg ∧ t.mem = s.mem ∧
        SameRegsBut [.ax] s t ∧ s.gpr.ax.toNat = (reg8 .al t).toNat * (value8 e s).toNat + (reg8 .ah t).toNat ∧
        (reg8 .ah t).toNat < (value8 e s).toNat ∧
        SameFlagsBut [.carry, .overflow, .sign, .zero, .aux, .parity] s t) ∧
    (value16 f s ≠ 0#16 → (s.gpr.dx ++ s.gpr.ax).toNat / (value16 f s).toNat ≤ 0xFFFF →
      ∃ t, exec (.divEv f) s = .next t ∧ SameSystem s t ∧ t.ip = s.ip ∧ t.seg = s.seg ∧ t.mem = s.mem ∧
        SameRegsBut [.ax, .dx] s t ∧
        (s.gpr.dx ++ s.gpr.ax).toNat = t.gpr.ax.toNat * (value16 f s).toNat + t.gpr.dx.toNat ∧
        t.gpr.dx.toNat < (value16 f s).toNat ∧
        SameFlagsBut [.carry, .overflow, .sign, .zero, .aux, .parity] s t) ∧
    (value8 e s ≠ 0#8 → s.gpr.ax.toInt.tdiv (value8 e s).toInt ≤ 127 →
      (if s.cpuMode = .v20 then -128 else -127) ≤ s.gpr.ax.toInt.tdiv (value8 e s).toInt →
      ∃ t, exec (.idivEb e) s = .next t ∧ SameSystem s t ∧ t.ip = s.ip ∧ t.seg = s.seg ∧ t.mem = s.mem ∧
        SameRegsBut [.ax] s t ∧ s.gpr.ax.toInt = (reg8 .al t).toInt * (value8 e s).toInt + (reg8 .ah t).toInt ∧
        (reg8 .ah t).toInt.natAbs < (value8 e s).toInt.natAbs ∧
        ((reg8 .ah t).toInt = 0 ∨ ((reg8 .ah t).toInt < 0 ↔ s.gpr.ax.toInt < 0)) ∧
        SameFlagsBut [.carry, .overflow, .sign, .zero, .aux, .parity] s t) ∧
    (value16 f s ≠ 0#16 → (s.gpr.dx ++ s.gpr.ax).toInt.tdiv (value16 f s).toInt ≤ 32767 →
      (if s.cpuMode = .v20 then -32768 else -32767) ≤ (s.gpr.dx ++ s.gpr.ax).toInt.tdiv (value16 f s).toInt →
      ∃ t, exec (.idivEv f) s = .next t ∧ SameSystem s t ∧ t.ip = s.ip ∧ t.seg = s.seg ∧ t.mem = s.mem ∧
        SameRegsBut [.ax, .dx] s t ∧
        (s.gpr.dx ++ s.gpr.ax).toInt = t.gpr.ax.toInt * (value16 f s).toInt + t.gpr.dx.toInt ∧
        t.gpr.dx.toInt.natAbs < (value16 f s).toInt.natAbs ∧
        (t.gpr.dx.toInt = 0 ∨ (t.gpr.dx.toInt < 0 ↔ (s.gpr.dx ++ s.gpr.ax).toInt < 0)) ∧
        SameFlagsBut [.carry, .overflow, .sign, .zero, .aux, .parity] s t)

/-- A divisor of 0, a quotient that does not fit, and AAM with base 0 take interrupt 0 with the first prefix byte's offset as
the pushed IP and nothing else written (60_exceptions.md R520; 41_arithmetic.md R282, R283, R294). -/
def Obligations.DivideFaultTakesVectorZero : Prop :=
  ∀ (s : State) (e : RM Reg8) (f : RM Reg16), s.mem.wf = true → NoHandler 0#8 s →
    ((value8 e s = 0#8 ∨ 0xFF < s.gpr.ax.toNat / (value8 e s).toNat) →
      ∃ t, exec (.divEb e) s = .next t ∧ Entered 0#8 s.dec.start s t) ∧
    ((value16 f s = 0#16 ∨ 0xFFFF < (s.gpr.dx ++ s.gpr.ax).toNat / (value16 f s).toNat) →
      ∃ t, exec (.divEv f) s = .next t ∧ Entered 0#8 s.dec.start s t) ∧
    ((value8 e s = 0#8 ∨ 127 < s.gpr.ax.toInt.tdiv (value8 e s).toInt ∨
        s.gpr.ax.toInt.tdiv (value8 e s).toInt < (if s.cpuMode = .v20 then -128 else -127)) →
      ∃ t, exec (.idivEb e) s = .next t ∧ Entered 0#8 s.dec.start s t) ∧
    ((value16 f s = 0#16 ∨ 32767 < (s.gpr.dx ++ s.gpr.ax).toInt.tdiv (value16 f s).toInt ∨
        (s.gpr.dx ++ s.gpr.ax).toInt.tdiv (value16 f s).toInt < (if s.cpuMode = .v20 then -32768 else -32767)) →
      ∃ t, exec (.idivEv f) s = .next t ∧ Entered 0#8 s.dec.start s t) ∧
    (∃ t, exec (.aamIb 0#8) s = .next t ∧ Entered 0#8 s.dec.start s t)

/-- The decimal adjusts, by the Intel reference's tests on the old AL; OF is free for DAA and DAS, OF SF ZF PF for AAA and
AAS, OF AF CF for AAM and AAD (41_arithmetic.md R290 to R295). -/
def Obligations.DecimalAdjustRows : Prop :=
  ∀ (s : State) (al ah : Byte) (low high : Bool) (v : Byte), al = reg8 .al s → ah = reg8 .ah s →
    low = (decide (9 < al.toNat % 16) || flag .aux s) → high = (decide (0x99 < al.toNat) || flag .carry s) →
    (∃ t, exec .daa s = .next t ∧ SameSystem s t ∧ t.ip = s.ip ∧
      PutByte (.reg .al) (al + (if low then 0x06#8 else 0#8) + (if high then 0x60#8 else 0#8)) s t ∧
      flag .aux t = low ∧ flag .carry t = high ∧ SzpOf (reg8 .al t) t ∧
      SameFlagsBut [.overflow, .sign, .zero, .aux, .parity, .carry] s t) ∧
    (∃ t, exec .das s = .next t ∧ SameSystem s t ∧ t.ip = s.ip ∧
      PutByte (.reg .al) (al - (if low then 0x06#8 else 0#8) - (if high then 0x60#8 else 0#8)) s t ∧
      flag .aux t = low ∧ flag .carry t = (high || low && decide (al.toNat < 6)) ∧ SzpOf (reg8 .al t) t ∧
      SameFlagsBut [.overflow, .sign, .zero, .aux, .parity, .carry] s t) ∧
    (∃ t, exec .aaa s = .next t ∧ SameSystem s t ∧ t.ip = s.ip ∧ t.seg = s.seg ∧ t.mem = s.mem ∧ SameRegsBut [.ax] s t ∧
      reg8 .al t = (al + (if low then 6#8 else 0#8)) &&& 0x0F#8 ∧ reg8 .ah t = ah + (if low then 1#8 else 0#8) ∧
      flag .aux t = low ∧ flag .carry t = low ∧ SameFlagsBut [.overflow, .sign, .zero, .aux, .parity, .carry] s t) ∧
    (∃ t, exec .aas s = .next t ∧ SameSystem s t ∧ t.ip = s.ip ∧ t.seg = s.seg ∧ t.mem = s.mem ∧ SameRegsBut [.ax] s t ∧
      reg8 .al t = (al - (if low then 6#8 else 0#8)) &&& 0x0F#8 ∧ reg8 .ah t = ah - (if low then 1#8 else 0#8) ∧
      flag .aux t = low ∧ flag .carry t = low ∧ SameFlagsBut [.overflow, .sign, .zero, .aux, .parity, .carry] s t) ∧
    (v ≠ 0#8 → ∃ t, exec (.aamIb v) s = .next t ∧ SameSystem s t ∧ t.ip = s.ip ∧ t.seg = s.seg ∧ t.mem = s.mem ∧
      SameRegsBut [.ax] s t ∧ (reg8 .al t).toNat = al.toNat % v.toNat ∧ (reg8 .ah t).toNat = al.toNat / v.toNat ∧
      SzpOf (reg8 .al t) t ∧ SameFlagsBut [.overflow, .sign, .zero, .aux, .parity, .carry] s t) ∧
    (∃ t, exec (.aadIb v) s = .next t ∧ SameSystem s t ∧ t.ip = s.ip ∧ t.seg = s.seg ∧ t.mem = s.mem ∧
      SameRegsBut [.ax] s t ∧ (reg8 .al t).toNat = (al.toNat + ah.toNat * v.toNat) % 256 ∧ reg8 .ah t = 0#8 ∧
      SzpOf (reg8 .al t) t ∧ SameFlagsBut [.overflow, .sign, .zero, .aux, .parity, .carry] s t)

/-- Group 2 on bytes and words, by 1, by CL and, in `V20` mode, by an immediate; last, the effective count of each mode
(42_logic_shift.md R330 to R339; 46_v20_extensions.md R479). -/
def Obligations.ShiftRows : Prop :=
  (∀ (s : State) (op : ShiftOp) (e : RM Reg8) (v : Byte), s.mem.wf = true →
    (∃ t, exec (shiftBy1R8 op e) s = .next t ∧ ShiftByteDone op (loc8 e s) (value8 e s) 1#8 s t) ∧
    (∃ t, exec (shiftByClR8 op e) s = .next t ∧ ShiftByteDone op (loc8 e s) (value8 e s) (reg8 .cl s) s t) ∧
    (s.cpuMode = .v20 →
      ∃ t, exec (shiftByImmR8 op e v) s = .next t ∧ ShiftByteDone op (loc8 e s) (value8 e s) v s t)) ∧
  (∀ (s : State) (op : ShiftOp) (e : RM Reg16) (v : Byte), s.mem.wf = true →
    (∃ t, exec (shiftBy1R16 op e) s = .next t ∧ ShiftWordDone op (loc16 e s) (value16 e s) 1#8 s t) ∧
    (∃ t, exec (shiftByClR16 op e) s = .next t ∧ ShiftWordDone op (loc16 e s) (value16 e s) (reg8 .cl s) s t) ∧
    (s.cpuMode = .v20 →
      ∃ t, exec (shiftByImmR16 op e v) s = .next t ∧ ShiftWordDone op (loc16 e s) (value16 e s) v s t)) ∧
  (∀ raw : Byte, effectiveCount .i8088 raw = raw.toNat ∧ effectiveCount .v20 raw = raw.toNat % 32)

/-! ### Strings -/

/-- A string primitive without a REP-class prefix runs once (43_string.md R360 to R366, R369; 46_v20_extensions.md R477,
R478). -/
def Obligations.StringRowsRunOnce : Prop :=
  ∀ s : State, s.mem.wf = true → s.dec.rep = .off →
    (∃ t, exec .movsb s = .next t ∧ SameSystem s t ∧ t.ip = s.ip ∧ t.flags = s.flags ∧ t.seg = s.seg ∧
      Stored [(lin s.seg.es s.gpr.di, (memRead8 (segFor .ds s) s.gpr.si s).1)] s t ∧ SameRegsBut [.si, .di] s t ∧
      t.gpr.si = stepped 1#16 s s.gpr.si ∧ t.gpr.di = stepped 1#16 s s.gpr.di) ∧
    (∃ t, exec .movsw s = .next t ∧ SameSystem s t ∧ t.ip = s.ip ∧ t.flags = s.flags ∧ t.seg = s.seg ∧
      Stored (wordCells s.wordWrap s.seg.es s.gpr.di (memRead16 (segFor .ds s) s.gpr.si s).1) s t ∧
      SameRegsBut [.si, .di] s t ∧ t.gpr.si = stepped 2#16 s s.gpr.si ∧ t.gpr.di = stepped 2#16 s s.gpr.di) ∧
    (∃ t, exec .cmpsb s = .next t ∧ SameSystem s t ∧ t.ip = s.ip ∧ t.seg = s.seg ∧ t.mem = s.mem ∧
      t.flags = (subFlags (memRead8 (segFor .ds s) s.gpr.si s).1
        (memRead8 s.seg.es s.gpr.di (memRead8 (segFor .ds s) s.gpr.si s).2).1 false s.flags).2 ∧
      SameRegsBut [.si, .di] s t ∧ t.gpr.si = stepped 1#16 s s.gpr.si ∧ t.gpr.di = stepped 1#16 s s.gpr.di) ∧
    (∃ t, exec .cmpsw s = .next t ∧ SameSystem s t ∧ t.ip = s.ip ∧ t.seg = s.seg ∧ t.mem = s.mem ∧
      t.flags = (subFlags (memRead16 (segFor .ds s) s.gpr.si s).1
        (memRead16 s.seg.es s.gpr.di (memRead16 (segFor .ds s) s.gpr.si s).2).1 false s.flags).2 ∧
      SameRegsBut [.si, .di] s t ∧ t.gpr.si = stepped 2#16 s s.gpr.si ∧ t.gpr.di = stepped 2#16 s s.gpr.di) ∧
    (∃ t, exec .scasb s = .next t ∧ SameSystem s t ∧ t.ip = s.ip ∧ t.seg = s.seg ∧ t.mem = s.mem ∧
      t.flags = (subFlags (reg8 .al s) (memRead8 s.seg.es s.gpr.di s).1 false s.flags).2 ∧
      SameRegsBut [.di] s t ∧ t.gpr.di = stepped 1#16 s s.gpr.di) ∧
    (∃ t, exec .scasw s = .next t ∧ SameSystem s t ∧ t.ip = s.ip ∧ t.seg = s.seg ∧ t.mem = s.mem ∧
      t.flags = (subFlags s.gpr.ax (memRead16 s.seg.es s.gpr.di s).1 false s.flags).2 ∧
      SameRegsBut [.di] s t ∧ t.gpr.di = stepped 2#16 s s.gpr.di) ∧
    (∃ t, exec .lodsb s = .next t ∧ SameSystem s t ∧ t.ip = s.ip ∧ t.flags = s.flags ∧ t.seg = s.seg ∧ t.mem = s.mem ∧
      SameRegsBut [.ax, .si] s t ∧ reg8 .ah t = reg8 .ah s ∧ reg8 .al t = (memRead8 (segFor .ds s) s.gpr.si s).1 ∧
      t.gpr.si = stepped 1#16 s s.gpr.si) ∧
    (∃ t, exec .lodsw s = .next t ∧ SameSystem s t ∧ t.ip = s.ip ∧ t.flags = s.flags ∧ t.seg = s.seg ∧ t.mem = s.mem ∧
      SameRegsBut [.ax, .si] s t ∧ t.gpr.ax = (memRead16 (segFor .ds s) s.gpr.si s).1 ∧
      t.gpr.si = stepped 2#16 s s.gpr.si) ∧
    (∃ t, exec .stosb s = .next t ∧ SameSystem s t ∧ t.ip = s.ip ∧ t.flags = s.flags ∧ t.seg = s.seg ∧
      Stored [(lin s.seg.es s.gpr.di, reg8 .al s)] s t ∧ SameRegsBut [.di] s t ∧
      t.gpr.di = stepped 1#16 s s.gpr.di) ∧
    (∃ t, exec .stosw s = .next t ∧ SameSystem s t ∧ t.ip = s.ip ∧ t.flags = s.flags ∧ t.seg = s.seg ∧
      Stored (wordCells s.wordWrap s.seg.es s.gpr.di s.gpr.ax) s t ∧ SameRegsBut [.di] s t ∧
      t.gpr.di = stepped 2#16 s s.gpr.di) ∧
    (s.cpuMode = .v20 →
      (∃ t, exec .insb s = .next t ∧ SameSystem s t ∧ t.ip = s.ip ∧ t.flags = s.flags ∧ t.seg = s.seg ∧
        Stored [(lin s.seg.es s.gpr.di, (ioIn8 s.gpr.dx s).1)] s t ∧ SameRegsBut [.di] s t ∧
        t.gpr.di = stepped 1#16 s s.gpr.di) ∧
      (∃ t, exec .insw s = .next t ∧ SameSystem s t ∧ t.ip = s.ip ∧ t.flags = s.flags ∧ t.seg = s.seg ∧
        Stored (wordCells s.wordWrap s.seg.es s.gpr.di (ioIn16 s.gpr.dx s).1) s t ∧ SameRegsBut [.di] s t ∧
        t.gpr.di = stepped 2#16 s s.gpr.di) ∧
      (∃ t, exec .outsb s = .next t ∧ SameSystem s t ∧ t.ip = s.ip ∧ t.flags = s.flags ∧ t.seg = s.seg ∧ t.mem = s.mem ∧
        SameRegsBut [.si] s t ∧ t.gpr.si = stepped 1#16 s s.gpr.si ∧
        t.events = (ioOut8 s.gpr.dx (memRead8 (segFor .ds s) s.gpr.si s).1
          (memRead8 (segFor .ds s) s.gpr.si s).2).events) ∧
      (∃ t, exec .outsw s = .next t ∧ SameSystem s t ∧ t.ip = s.ip ∧ t.flags = s.flags ∧ t.seg = s.seg ∧ t.mem = s.mem ∧
        SameRegsBut [.si] s t ∧ t.gpr.si = stepped 2#16 s s.gpr.si ∧
        t.events = (ioOut16 s.gpr.dx (memRead16 (segFor .ds s) s.gpr.si s).1
          (memRead16 (segFor .ds s) s.gpr.si s).2).events))

/-- The REP loop by its iterations, for every repeatable primitive (43_string.md R369 to R372). With CX = 0 no iteration runs.
With CX not 0 and another byte at the primitive's place the step is refused, with IP after the primitive. With the primitive's
byte in place the iteration is the primitive run once without the prefix, on the state in which that byte has been read; then
CX is one less, and either a compare or scan primitive leaves the loop by ZF or the loop goes on from there. -/
def Obligations.RepLoopByIteration : Prop :=
  ∀ (s : State) (i : Instr), s.dec.rep ≠ .off → (i ∈ stringRows ∨ i ∈ ioStringRows ∧ s.cpuMode = .v20) →
    (s.gpr.cx = 0#16 → exec i s = .next s) ∧
    (s.gpr.cx ≠ 0#16 → encode i ≠ [(busRead8 (lin s.seg.cs (s.ip - 1#16)) s).1] →
      ∃ u, exec i s = .refused (.repByteChanged u) ∧ u.ip = s.ip ∧ u.gpr = s.gpr ∧ u.seg = s.seg ∧
        u.flags = s.flags ∧ u.mem = s.mem) ∧
    (s.gpr.cx ≠ 0#16 → encode i = [(busRead8 (lin s.seg.cs (s.ip - 1#16)) s).1] →
      ∃ u, exec i { (busRead8 (lin s.seg.cs (s.ip - 1#16)) s).2 with dec := { s.dec with rep := .off } } = .next u ∧
        ∀ v, v = { u with dec := s.dec, gpr := { u.gpr with cx := s.gpr.cx - 1#16 } } →
          exec i s =
            if i ∈ scanRows ∧ (s.dec.rep = .repne ∧ flag .zero v = true ∨ s.dec.rep = .repe ∧ flag .zero v = false)
            then .next v else exec i v)

/-- `REPE CMPSB` over a buffer with a mismatch at index `k` ends after `k + 1` iterations (43_string.md R375). It says the
general and segment registers, IP, ZF and memory; it is stated for DF = 0. The other primitives, REPNE and DF = 1 are in
RepLoopByIteration. -/
def Obligations.RepeCmpsbStopsAtMismatch : Prop :=
  ∀ (s : State) (k : Nat), s.dec.rep = .repe → flag .direction s = false → k < s.gpr.cx.toNat →
    peek s (lin s.seg.cs (s.ip - 1#16)) = some 0xA6#8 →
    (∀ j, j < k → ∃ b, peek s (lin (segFor .ds s) (s.gpr.si + BitVec.ofNat 16 j)) = some b ∧
      peek s (lin s.seg.es (s.gpr.di + BitVec.ofNat 16 j)) = some b) →
    (∃ a b, peek s (lin (segFor .ds s) (s.gpr.si + BitVec.ofNat 16 k)) = some a ∧
      peek s (lin s.seg.es (s.gpr.di + BitVec.ofNat 16 k)) = some b ∧ a ≠ b) →
    ∃ t, exec .cmpsb s = .next t ∧ t.gpr.cx = s.gpr.cx - BitVec.ofNat 16 (k + 1) ∧
      t.gpr.si = s.gpr.si + BitVec.ofNat 16 (k + 1) ∧ t.gpr.di = s.gpr.di + BitVec.ofNat 16 (k + 1) ∧
      flag .zero t = false ∧ t.ip = s.ip ∧ SameRegsBut [.cx, .si, .di] s t ∧ t.seg = s.seg ∧ t.mem = s.mem

/-- `REP STOSB` with DF = 0 fills CX bytes from ES:DI with AL, as long as it does not overwrite its own opcode byte
(43_string.md R365, R370, R371). The word form, the other primitives and DF = 1 are in RepLoopByIteration. -/
def Obligations.RepStosbFillsTheBuffer : Prop :=
  ∀ s : State, s.mem.wf = true → s.dec.rep ≠ .off → flag .direction s = false →
    peek s (lin s.seg.cs (s.ip - 1#16)) = some 0xAA#8 →
    (∀ j, j < s.gpr.cx.toNat → lin s.seg.es (s.gpr.di + BitVec.ofNat 16 j) ≠ lin s.seg.cs (s.ip - 1#16)) →
    ∃ t, exec .stosb s = .next t ∧ t.gpr.cx = 0#16 ∧ t.gpr.di = s.gpr.di + s.gpr.cx ∧ SameRegsBut [.cx, .di] s t ∧
      t.seg = s.seg ∧ t.flags = s.flags ∧ t.ip = s.ip ∧
      Stored ((List.range s.gpr.cx.toNat).map fun j => (lin s.seg.es (s.gpr.di + BitVec.ofNat 16 j), reg8 .al s)) s t

/-! ### Control transfer -/

/-- The sixteen conditional jumps, each odd one the negation of the even one before it (44_control_transfer.md R404, R405). -/
def Obligations.ConditionalJumpRows : Prop :=
  ∀ (s : State) (d : Byte),
    (∀ (c : Cond) (b : Bool), b = c.holds s.flags → ∃ t, exec (jcc c d) s = .next t ∧ Quiet s t ∧
      JumpedTo (if b then s.ip + d.signExtend 16 else s.ip) s t) ∧
    (Cond.o.holds s.flags = flag .overflow s ∧ Cond.b.holds s.flags = flag .carry s ∧ Cond.e.holds s.flags = flag .zero s ∧
      Cond.be.holds s.flags = (flag .carry s || flag .zero s) ∧ Cond.s.holds s.flags = flag .sign s ∧
      Cond.p.holds s.flags = flag .parity s ∧ Cond.l.holds s.flags = (flag .sign s != flag .overflow s) ∧
      Cond.le.holds s.flags = (flag .zero s || flag .sign s != flag .overflow s)) ∧
    (Cond.no.holds s.flags = !Cond.o.holds s.flags ∧ Cond.ae.holds s.flags = !Cond.b.holds s.flags ∧
      Cond.ne.holds s.flags = !Cond.e.holds s.flags ∧ Cond.a.holds s.flags = !Cond.be.holds s.flags ∧
      Cond.ns.holds s.flags = !Cond.s.holds s.flags ∧ Cond.np.holds s.flags = !Cond.p.holds s.flags ∧
      Cond.ge.holds s.flags = !Cond.l.holds s.flags ∧ Cond.g.holds s.flags = !Cond.le.holds s.flags)

/-- The jumps, the loops and JCXZ (44_control_transfer.md R401 to R407, R420 to R423). -/
def Obligations.JumpAndLoopRows : Prop :=
  ∀ (s : State) (d : Byte) (w c : Word) (e : RM Reg16) (m : MemOp) (cx : Word), cx = s.gpr.cx - 1#16 →
    (∃ t, exec (.jmpRel8 d) s = .next t ∧ JumpedTo (s.ip + d.signExtend 16) s t ∧ Quiet s t) ∧
    (∃ t, exec (.jmpRel16 w) s = .next t ∧ JumpedTo (s.ip + w) s t ∧ Quiet s t) ∧
    (∃ t, exec (.jmpPtr w c) s = .next t ∧ FarJumpedTo c w s t ∧ Quiet s t) ∧
    (∃ t, exec (.jmpEv e) s = .next t ∧ JumpedTo (value16 e s) s t) ∧
    (∃ t, exec (.jmpMpFar m) s = .next t ∧
      FarJumpedTo (memRead16 (eaSegment m s) (eaOffset m s + 2#16) (memRead16 (eaSegment m s) (eaOffset m s) s).2).1
        (memRead16 (eaSegment m s) (eaOffset m s) s).1 s t) ∧
    (∃ t, exec (.jcxzRel8 d) s = .next t ∧ JumpedTo (if s.gpr.cx = 0#16 then s.ip + d.signExtend 16 else s.ip) s t) ∧
    (∀ p ∈ [(Instr.loopRel8 d, true), (Instr.loopeRel8 d, flag .zero s), (Instr.loopneRel8 d, !flag .zero s)],
      ∃ t, exec p.1 s = .next t ∧ SameSystem s t ∧ Quiet s t ∧ t.flags = s.flags ∧ t.seg = s.seg ∧ t.mem = s.mem ∧
        SameRegsBut [.cx] s t ∧ t.gpr.cx = cx ∧
        t.ip = if cx ≠ 0#16 ∧ p.2 = true then s.ip + d.signExtend 16 else s.ip)

/-- The calls push the offset after the instruction, a far call CS before it, and read an indirect operand before any push; the
returns pop in the opposite order (44_control_transfer.md R410 to R417). -/
def Obligations.CallAndReturnRows : Prop :=
  (∀ (s : State) (d w c : Word) (e : RM Reg16) (m : MemOp), s.mem.wf = true →
    (∀ p ∈ [(Instr.callRel16 d, s.ip + d), (Instr.callEv e, value16 e s)],
      ∃ t, exec p.1 s = .next t ∧ SameSystem s t ∧ t.flags = s.flags ∧ t.seg = s.seg ∧ t.ip = p.2 ∧
        SameRegsBut [.sp] s t ∧ t.gpr.sp = s.gpr.sp - 2#16 ∧
        Stored (wordCells s.wordWrap s.seg.ss (s.gpr.sp - 2#16) s.ip) s t) ∧
    (∀ p ∈ [(Instr.callPtr w c, w, c), (Instr.callMpFar m, (memRead16 (eaSegment m s) (eaOffset m s) s).1,
        (memRead16 (eaSegment m s) (eaOffset m s + 2#16) (memRead16 (eaSegment m s) (eaOffset m s) s).2).1)],
      ∃ t, exec p.1 s = .next t ∧ SameSystem s t ∧ t.flags = s.flags ∧ SameSregsBut [.cs] s t ∧ t.ip = p.2.1 ∧
        t.seg.cs = p.2.2 ∧ SameRegsBut [.sp] s t ∧ t.gpr.sp = s.gpr.sp - 4#16 ∧
        Stored (wordCells s.wordWrap s.seg.ss (s.gpr.sp - 4#16) s.ip
          ++ wordCells s.wordWrap s.seg.ss (s.gpr.sp - 2#16) s.seg.cs) s t)) ∧
  (∀ (s : State) (v : Word),
    (∀ p ∈ [(Instr.ret, 2#16), (Instr.retIw v, 2#16 + v)],
      ∃ t, exec p.1 s = .next t ∧ SameSystem s t ∧ t.flags = s.flags ∧ t.seg = s.seg ∧ t.mem = s.mem ∧
        SameRegsBut [.sp] s t ∧ t.gpr.sp = s.gpr.sp + p.2 ∧ t.ip = (memRead16 s.seg.ss s.gpr.sp s).1) ∧
    (∀ p ∈ [(Instr.retf, 4#16), (Instr.retfIw v, 4#16 + v)],
      ∃ t, exec p.1 s = .next t ∧ SameSystem s t ∧ t.flags = s.flags ∧ SameSregsBut [.cs] s t ∧ t.mem = s.mem ∧
        SameRegsBut [.sp] s t ∧ t.gpr.sp = s.gpr.sp + p.2 ∧ t.ip = (memRead16 s.seg.ss s.gpr.sp s).1 ∧
        t.seg.cs = (memRead16 s.seg.ss (s.gpr.sp + 2#16) (memRead16 s.seg.ss s.gpr.sp s).2).1))

/-! ### Interrupts -/

/-- INT 3, INT ib and INTO with OF = 1 take their vector with the offset after the instruction as the pushed IP, six bytes on
the stack; INTO with OF = 0 does nothing; the entry of vector n stands at 4n (44_control_transfer.md R424, R425, R427;
60_exceptions.md R510, R512). -/
def Obligations.SoftwareInterruptRows : Prop :=
  ∀ (s : State) (n : Byte), s.mem.wf = true →
    (NoHandler 3#8 s → ∃ t, exec .int3 s = .next t ∧ Entered 3#8 s.ip s t) ∧
    (NoHandler n s → ∃ t, exec (.intIb n) s = .next t ∧ Entered n s.ip s t) ∧
    (NoHandler 4#8 s → flag .overflow s = true → ∃ t, exec .into s = .next t ∧ Entered 4#8 s.ip s t) ∧
    (flag .overflow s = false → exec .into s = .next s) ∧ (vectorOff n).toNat = 4 * n.toNat

/-- An installed software handler runs in place of the vector table, here for INT ib; `h` is the state its effects on registers,
FLAGS, memory and devices leave. Handled: `h` stays but for TF and IF, which are cleared, so IP, CS, SP and the stack are as
the handler left them; "not handled" falls through to the hardware path from `h`; another error ends the run after TF and IF
are cleared (60_exceptions.md R510, R511). That a handler is a list of calls that is used up, and the state the fault carries,
are the model's: notes/assumptions/14.md, 15.md. The other sources of an interrupt are left out. -/
def Obligations.SoftHandlerReplacesTheVectorTable : Prop :=
  ∀ (s h : State) (n : Byte) (r : HandlerReply) (hs : List SoftHandler), s.mem.wf = true →
    nextReply n s.softInt = some (r, hs) → h = runHandlerOps r.ops { s with softInt := hs } →
    (r.result = .ok → ∃ t, exec (.intIb n) s = .next t ∧ t = { h with flags := t.flags } ∧
      flag .trap t = false ∧ flag .interrupt t = false ∧ SameFlagsBut [.trap, .interrupt] h t) ∧
    (r.result = .notHandled → ∃ t, exec (.intIb n) s = .next t ∧ Entered n h.ip h t) ∧
    (∀ e, r.result = .error e → ∃ t, exec (.intIb n) s = .fault (.handlerError e t) ∧
      t = { h with flags := t.flags } ∧ flag .trap t = false ∧ flag .interrupt t = false ∧
      SameFlagsBut [.trap, .interrupt] h t)

/-- IRET pops IP, CS and FLAGS; after an interrupt entry on a stack in RAM it restores IP, CS, SP and FLAGS as they were,
TF and IF among them (44_control_transfer.md R426; 60_exceptions.md R513). -/
def Obligations.IretUndoesInterruptEntry : Prop :=
  (∀ (s : State) (ip cs fl : Word), peekWord s s.seg.ss s.gpr.sp = some ip →
    peekWord s s.seg.ss (s.gpr.sp + 2#16) = some cs → peekWord s s.seg.ss (s.gpr.sp + 4#16) = some fl →
    ∃ t, exec .iret s = .next t ∧ SameSystem s t ∧ t.ip = ip ∧ t.seg.cs = cs ∧ SameSregsBut [.cs] s t ∧
      t.flags = fl ||| 0x0002#16 ∧ t.mem = s.mem ∧ SameRegsBut [.sp] s t ∧ t.gpr.sp = s.gpr.sp + 6#16) ∧
  (∀ (s t : State) (n : Byte), s.mem.wf = true → NoHandler n s →
    (∀ k ∈ [2#16, 4#16, 6#16], IsRam s (lin s.seg.ss (s.gpr.sp - k)) ∧
      IsRam s (hiAddr s.wordWrap s.seg.ss (s.gpr.sp - k))) →
    exec (.intIb n) s = .next t →
    ∃ u, exec .iret t = .next u ∧ u.ip = s.ip ∧ u.seg = s.seg ∧ u.gpr = s.gpr ∧ u.flags = s.flags ||| 0x0002#16)

/-! ### Processor control and prefixes -/

/-- The flag instructions write their flag alone; HLT goes back over its byte and signals `Halt`; WAIT and ESC do nothing
(45_processor_control.md R440 to R447, R455, R456). That `Halt` is a next state with `signal = .halt` is the model's form:
notes/assumptions/22.md. -/
def Obligations.ProcessorControlRows : Prop :=
  ∀ (s : State) (x g : BitVec 3) (e : RM Reg16),
    (∀ p ∈ [(Instr.clc, Flag.carry, false), (Instr.stc, Flag.carry, true), (Instr.cmc, Flag.carry, !flag .carry s),
        (Instr.cli, Flag.interrupt, false), (Instr.sti, Flag.interrupt, true), (Instr.cld, Flag.direction, false),
        (Instr.std, Flag.direction, true)],
      ∃ t, exec p.1 s = .next t ∧ t = { s with flags := t.flags } ∧ flag p.2.1 t = p.2.2 ∧ SameFlagsBut [p.2.1] s t) ∧
    exec .hlt s = .next { s with ip := s.ip - 1#16, signal := .halt } ∧
    exec .wait s = .next s ∧ exec (.esc x g e) s = .next s

/-- A prefix row changes the decode state alone: the last override and the last REP-class prefix count, LOCK has no effect
(30_encoding.md R111, R125, R150; 45_processor_control.md R457). -/
def Obligations.PrefixRows : Prop :=
  ∀ s : State,
    (∀ p ∈ [(Instr.prefixEs, Sreg.es), (Instr.prefixCs, Sreg.cs), (Instr.prefixSs, Sreg.ss), (Instr.prefixDs, Sreg.ds)],
      ∃ t, exec p.1 s = .next t ∧ t = { s with dec := t.dec } ∧ t.dec.start = s.dec.start ∧ t.dec.rep = s.dec.rep ∧
        ∀ d, segFor d t = sreg p.2 s) ∧
    (∀ p ∈ [(Instr.prefixRepne, Rep.repne), (Instr.prefixRep, Rep.repe)],
      ∃ t, exec p.1 s = .next t ∧ t = { s with dec := t.dec } ∧ t.dec.start = s.dec.start ∧ t.dec.rep = p.2 ∧
        ∀ d, segFor d t = segFor d s) ∧
    exec .prefixLock s = .next s

/-! ### The rows of V20 mode -/

/-- PUSHA pushes the eight registers, SP as it was before the first push; on a stack in RAM, POPA after it restores them all
(46_v20_extensions.md R471, R472). -/
def Obligations.PushaAndPopa : Prop :=
  (∀ s : State, s.cpuMode = .v20 → s.mem.wf = true →
    ∃ t, exec .pusha s = .next t ∧ SameSystem s t ∧ t.ip = s.ip ∧ t.flags = s.flags ∧ t.seg = s.seg ∧
      SameRegsBut [.sp] s t ∧ t.gpr.sp = s.gpr.sp - 16#16 ∧
      Stored ([(16#16, s.gpr.di), (14#16, s.gpr.si), (12#16, s.gpr.bp), (10#16, s.gpr.sp), (8#16, s.gpr.bx),
          (6#16, s.gpr.dx), (4#16, s.gpr.cx), (2#16, s.gpr.ax)].flatMap
        fun p : Word × Word => wordCells s.wordWrap s.seg.ss (s.gpr.sp - p.1) p.2) s t) ∧
  (∀ (s : State) (w : Reg16 → Word), s.cpuMode = .v20 →
    (∀ p ∈ [(0#16, Reg16.di), (2#16, .si), (4#16, .bp), (6#16, .sp), (8#16, .bx), (10#16, .dx), (12#16, .cx), (14#16, .ax)],
      peekWord s s.seg.ss (s.gpr.sp + p.1) = some (w p.2)) →
    ∃ t, exec .popa s = .next t ∧ SameSystem s t ∧ t.ip = s.ip ∧ t.flags = s.flags ∧ t.seg = s.seg ∧ t.mem = s.mem ∧
      ∀ q, reg16 q t = if q = .sp then s.gpr.sp + 16#16 else w q) ∧
  (∀ s t : State, s.cpuMode = .v20 → s.mem.wf = true →
    (∀ k ∈ [2#16, 4#16, 6#16, 8#16, 10#16, 12#16, 14#16, 16#16], IsRam s (lin s.seg.ss (s.gpr.sp - k)) ∧
      IsRam s (hiAddr s.wordWrap s.seg.ss (s.gpr.sp - k))) →
    exec .pusha s = .next t → ∃ u, exec .popa t = .next u ∧ u.gpr = s.gpr)

/-- ENTER and LEAVE: for every level the registers, the words of BP and of the frame, and which bytes may change; the whole
frame where the copied frame pointers are on no `Opaque` device and outside what is written (always for levels 0 and 1); LEAVE
after ENTER of any level, with the pushed BP in RAM, restores SP and BP (46_v20_extensions.md R480, R481). -/
def Obligations.EnterAndLeave : Prop :=
  (∀ (s : State) (size : Word) (level : Byte) (n : Nat) (w : Nat → Word), s.cpuMode = .v20 → s.mem.wf = true →
    n = level.toNat % 32 →
    (∀ k, 1 ≤ k → k < n → peekWord s s.seg.ss (s.gpr.bp - BitVec.ofNat 16 (2 * k)) = some (w k)) →
    (∀ k j, 1 ≤ k → k < n → j ≤ n →
      ∀ c ∈ wordCells s.wordWrap s.seg.ss (s.gpr.bp - BitVec.ofNat 16 (2 * k)) 0#16,
      ∀ d ∈ wordCells s.wordWrap s.seg.ss (s.gpr.sp - BitVec.ofNat 16 (2 * (j + 1))) 0#16, c.1 ≠ d.1) →
    ∃ t, exec (.enterIwIb size level) s = .next t ∧ SameSystem s t ∧ t.ip = s.ip ∧ t.flags = s.flags ∧ t.seg = s.seg ∧
      SameRegsBut [.sp, .bp] s t ∧ t.gpr.bp = s.gpr.sp - 2#16 ∧
      t.gpr.sp = s.gpr.sp - BitVec.ofNat 16 (2 * (n + 1)) - size ∧
      Stored ((if n = 0 then [] else
            wordCells s.wordWrap s.seg.ss (s.gpr.sp - BitVec.ofNat 16 (2 * (n + 1))) (s.gpr.sp - 2#16))
          ++ (List.range (n - 1)).reverse.flatMap (fun j =>
            wordCells s.wordWrap s.seg.ss (s.gpr.sp - BitVec.ofNat 16 (2 * (j + 2))) (w (j + 1)))
          ++ wordCells s.wordWrap s.seg.ss (s.gpr.sp - 2#16) s.gpr.bp) s t) ∧
  (∀ (s : State) (size : Word) (level : Byte) (n : Nat), s.cpuMode = .v20 → s.mem.wf = true → n = level.toNat % 32 →
    ∃ t, exec (.enterIwIb size level) s = .next t ∧ SameSystem s t ∧ t.ip = s.ip ∧ t.flags = s.flags ∧ t.seg = s.seg ∧
      SameRegsBut [.sp, .bp] s t ∧ t.gpr.bp = s.gpr.sp - 2#16 ∧
      t.gpr.sp = s.gpr.sp - BitVec.ofNat 16 (2 * (n + 1)) - size ∧
      (∀ c ∈ wordCells s.wordWrap s.seg.ss (s.gpr.sp - 2#16) s.gpr.bp, IsRam s c.1 → t.mem.read c.1.toNat = c.2) ∧
      (n ≠ 0 → ∀ c ∈ wordCells s.wordWrap s.seg.ss (s.gpr.sp - BitVec.ofNat 16 (2 * (n + 1))) (s.gpr.sp - 2#16),
        IsRam s c.1 → t.mem.read c.1.toNat = c.2) ∧
      ∀ a : Addr, (∀ k, k ≤ n → ∀ c ∈ wordCells s.wordWrap s.seg.ss (s.gpr.sp - BitVec.ofNat 16 (2 * (k + 1))) 0#16,
        c.1 ≠ a) → t.mem.read a.toNat = s.mem.read a.toNat) ∧
  (∀ s : State, s.cpuMode = .v20 →
    ∃ t, exec .leave s = .next t ∧ SameSystem s t ∧ t.ip = s.ip ∧ t.flags = s.flags ∧ t.seg = s.seg ∧ t.mem = s.mem ∧
      SameRegsBut [.sp, .bp] s t ∧ t.gpr.sp = s.gpr.bp + 2#16 ∧ t.gpr.bp = (memRead16 s.seg.ss s.gpr.bp s).1) ∧
  (∀ (s t : State) (size : Word) (level : Byte), s.cpuMode = .v20 → s.mem.wf = true →
    IsRam s (lin s.seg.ss (s.gpr.sp - 2#16)) → IsRam s (hiAddr s.wordWrap s.seg.ss (s.gpr.sp - 2#16)) →
    exec (.enterIwIb size level) s = .next t →
    ∃ u, exec .leave t = .next u ∧ u.gpr = s.gpr)

/-- IMUL with an immediate, and BOUND inside and outside its bounds (46_v20_extensions.md R475, R476). -/
def Obligations.ImulImmediateAndBound : Prop :=
  ∀ (s : State) (g : Reg16) (e : RM Reg16) (k : Word) (b : Byte) (m : MemOp), s.cpuMode = .v20 → s.mem.wf = true →
    (∀ p ∈ [(Instr.imulGvEvIw g e k, k), (Instr.imulGvEvIbS g e b, b.signExtend 16)],
      ∃ t, exec p.1 s = .next t ∧ SameSystem s t ∧ t.ip = s.ip ∧
        PutWord (.reg g) (BitVec.ofInt 16 ((value16 e s).toInt * p.2.toInt)) s t ∧
        flag .carry t = decide ((value16 e s).toInt * p.2.toInt < -32768 ∨ 32767 < (value16 e s).toInt * p.2.toInt) ∧
        flag .overflow t = flag .carry t ∧ SameFlagsBut [.carry, .overflow, .sign, .zero, .aux, .parity] s t) ∧
    (∀ lo hi : Word, lo = (memRead16 (eaSegment m s) (eaOffset m s) s).1 →
      hi = (memRead16 (eaSegment m s) (eaOffset m s + 2#16) (memRead16 (eaSegment m s) (eaOffset m s) s).2).1 →
      (lo.toInt ≤ (reg16 g s).toInt ∧ (reg16 g s).toInt ≤ hi.toInt →
        ∃ t, exec (.boundGvMa g m) s = .next t ∧ SameSystem s t ∧ t.ip = s.ip ∧ t.flags = s.flags ∧ SameData s t) ∧
      (NoHandler 5#8 s → (reg16 g s).toInt < lo.toInt ∨ hi.toInt < (reg16 g s).toInt →
        ∃ t, exec (.boundGvMa g m) s = .next t ∧ Entered 5#8 s.dec.start s t))

/-! ### Illegal encodings -/

/-- In `V20` mode every illegal encoding takes interrupt 6 with the first prefix byte's offset as the pushed IP
(30_encoding.md R140, R141; 60_exceptions.md R522). -/
def Obligations.IllegalEncodingTakesVectorSix : Prop :=
  ∀ (s : State) (i : Instr), s.cpuMode = .v20 → s.mem.wf = true → NoHandler 6#8 s → i ∈ illegalRows →
    ∃ t, exec i s = .next t ∧ Entered 6#8 s.dec.start s t

/-- In `I8088` mode every illegal encoding and every row of `V20` mode stops with `DebugBreak`: IP back at the first prefix
byte, `debug_break` set, nothing else changed; the opcodes illegal in `I8088` mode alone always stop so
(60_exceptions.md R524; 30_encoding.md R140, R141; 46_v20_extensions.md R470). That the fifteen rows of `I8088` mode stop
whatever the mode is notes/assumptions/16.md; the state the fault carries is notes/assumptions/15.md. -/
def Obligations.IllegalEncodingStopsWithDebugBreak : Prop :=
  ∀ (s : State) (i : Instr),
    (i ∈ baselineIllegalRows ∨ s.cpuMode = .i8088 ∧ (i ∈ illegalRows ∨ isV20Row i = true)) →
    exec i s = .fault (.debugBreak { s with ip := s.dec.start, debugBreak := true })
end

