-- ==== Sys2Proof/Laws/State.lean ====
section
/-! SUPPORT. One lemma for each field of `State` and each shared operation that leaves it alone, and for each field an
operation sets to a plain value; then the same for the accessors `reg16`, `reg8`, `sreg`, `flag` and `kindAt`. -/

namespace Sys2Proof.Machine

/-! ### Accessors that read the same parts give the same value -/

theorem reg16_congr {s t : State} (h : t.gpr = s.gpr) (r : Reg16) : reg16 r t = reg16 r s := by
  unfold reg16; rw [h]

theorem reg8_congr {s t : State} (h : t.gpr = s.gpr) (r : Reg8) : reg8 r t = reg8 r s := by
  unfold reg8; rw [reg16_congr h]

theorem sreg_congr {s t : State} (h : t.seg = s.seg) (r : Sreg) : sreg r t = sreg r s := by
  unfold sreg; rw [h]

theorem flag_congr {s t : State} (h : t.flags = s.flags) (f : Flag) : flag f t = flag f s := by
  unfold flag; rw [h]

theorem kindAt_congr {s t : State} (h : t.memTable = s.memTable) (h' : t.peripherals = s.peripherals) (a : Addr) :
    kindAt t a = kindAt s a := by
  unfold kindAt; rw [h, h']

/-! ### Registers written through a record -/

@[simp] theorem Gpr.set_ax_ax (g : Gpr) (v : Word) : (g.set .ax v).ax = v := rfl
@[simp] theorem Gpr.set_ax_cx (g : Gpr) (v : Word) : (g.set .ax v).cx = g.cx := rfl
@[simp] theorem Gpr.set_ax_dx (g : Gpr) (v : Word) : (g.set .ax v).dx = g.dx := rfl
@[simp] theorem Gpr.set_ax_bx (g : Gpr) (v : Word) : (g.set .ax v).bx = g.bx := rfl
@[simp] theorem Gpr.set_ax_sp (g : Gpr) (v : Word) : (g.set .ax v).sp = g.sp := rfl
@[simp] theorem Gpr.set_ax_bp (g : Gpr) (v : Word) : (g.set .ax v).bp = g.bp := rfl
@[simp] theorem Gpr.set_ax_si (g : Gpr) (v : Word) : (g.set .ax v).si = g.si := rfl
@[simp] theorem Gpr.set_ax_di (g : Gpr) (v : Word) : (g.set .ax v).di = g.di := rfl
@[simp] theorem Gpr.set_cx_cx (g : Gpr) (v : Word) : (g.set .cx v).cx = v := rfl
@[simp] theorem Gpr.set_cx_ax (g : Gpr) (v : Word) : (g.set .cx v).ax = g.ax := rfl
@[simp] theorem Gpr.set_cx_dx (g : Gpr) (v : Word) : (g.set .cx v).dx = g.dx := rfl
@[simp] theorem Gpr.set_cx_bx (g : Gpr) (v : Word) : (g.set .cx v).bx = g.bx := rfl
@[simp] theorem Gpr.set_cx_sp (g : Gpr) (v : Word) : (g.set .cx v).sp = g.sp := rfl
@[simp] theorem Gpr.set_cx_bp (g : Gpr) (v : Word) : (g.set .cx v).bp = g.bp := rfl
@[simp] theorem Gpr.set_cx_si (g : Gpr) (v : Word) : (g.set .cx v).si = g.si := rfl
@[simp] theorem Gpr.set_cx_di (g : Gpr) (v : Word) : (g.set .cx v).di = g.di := rfl
@[simp] theorem Gpr.set_dx_dx (g : Gpr) (v : Word) : (g.set .dx v).dx = v := rfl
@[simp] theorem Gpr.set_dx_ax (g : Gpr) (v : Word) : (g.set .dx v).ax = g.ax := rfl
@[simp] theorem Gpr.set_dx_cx (g : Gpr) (v : Word) : (g.set .dx v).cx = g.cx := rfl
@[simp] theorem Gpr.set_dx_bx (g : Gpr) (v : Word) : (g.set .dx v).bx = g.bx := rfl
@[simp] theorem Gpr.set_dx_sp (g : Gpr) (v : Word) : (g.set .dx v).sp = g.sp := rfl
@[simp] theorem Gpr.set_dx_bp (g : Gpr) (v : Word) : (g.set .dx v).bp = g.bp := rfl
@[simp] theorem Gpr.set_dx_si (g : Gpr) (v : Word) : (g.set .dx v).si = g.si := rfl
@[simp] theorem Gpr.set_dx_di (g : Gpr) (v : Word) : (g.set .dx v).di = g.di := rfl
@[simp] theorem Gpr.set_bx_bx (g : Gpr) (v : Word) : (g.set .bx v).bx = v := rfl
@[simp] theorem Gpr.set_bx_ax (g : Gpr) (v : Word) : (g.set .bx v).ax = g.ax := rfl
@[simp] theorem Gpr.set_bx_cx (g : Gpr) (v : Word) : (g.set .bx v).cx = g.cx := rfl
@[simp] theorem Gpr.set_bx_dx (g : Gpr) (v : Word) : (g.set .bx v).dx = g.dx := rfl
@[simp] theorem Gpr.set_bx_sp (g : Gpr) (v : Word) : (g.set .bx v).sp = g.sp := rfl
@[simp] theorem Gpr.set_bx_bp (g : Gpr) (v : Word) : (g.set .bx v).bp = g.bp := rfl
@[simp] theorem Gpr.set_bx_si (g : Gpr) (v : Word) : (g.set .bx v).si = g.si := rfl
@[simp] theorem Gpr.set_bx_di (g : Gpr) (v : Word) : (g.set .bx v).di = g.di := rfl
@[simp] theorem Gpr.set_sp_sp (g : Gpr) (v : Word) : (g.set .sp v).sp = v := rfl
@[simp] theorem Gpr.set_sp_ax (g : Gpr) (v : Word) : (g.set .sp v).ax = g.ax := rfl
@[simp] theorem Gpr.set_sp_cx (g : Gpr) (v : Word) : (g.set .sp v).cx = g.cx := rfl
@[simp] theorem Gpr.set_sp_dx (g : Gpr) (v : Word) : (g.set .sp v).dx = g.dx := rfl
@[simp] theorem Gpr.set_sp_bx (g : Gpr) (v : Word) : (g.set .sp v).bx = g.bx := rfl
@[simp] theorem Gpr.set_sp_bp (g : Gpr) (v : Word) : (g.set .sp v).bp = g.bp := rfl
@[simp] theorem Gpr.set_sp_si (g : Gpr) (v : Word) : (g.set .sp v).si = g.si := rfl
@[simp] theorem Gpr.set_sp_di (g : Gpr) (v : Word) : (g.set .sp v).di = g.di := rfl
@[simp] theorem Gpr.set_bp_bp (g : Gpr) (v : Word) : (g.set .bp v).bp = v := rfl
@[simp] theorem Gpr.set_bp_ax (g : Gpr) (v : Word) : (g.set .bp v).ax = g.ax := rfl
@[simp] theorem Gpr.set_bp_cx (g : Gpr) (v : Word) : (g.set .bp v).cx = g.cx := rfl
@[simp] theorem Gpr.set_bp_dx (g : Gpr) (v : Word) : (g.set .bp v).dx = g.dx := rfl
@[simp] theorem Gpr.set_bp_bx (g : Gpr) (v : Word) : (g.set .bp v).bx = g.bx := rfl
@[simp] theorem Gpr.set_bp_sp (g : Gpr) (v : Word) : (g.set .bp v).sp = g.sp := rfl
@[simp] theorem Gpr.set_bp_si (g : Gpr) (v : Word) : (g.set .bp v).si = g.si := rfl
@[simp] theorem Gpr.set_bp_di (g : Gpr) (v : Word) : (g.set .bp v).di = g.di := rfl
@[simp] theorem Gpr.set_si_si (g : Gpr) (v : Word) : (g.set .si v).si = v := rfl
@[simp] theorem Gpr.set_si_ax (g : Gpr) (v : Word) : (g.set .si v).ax = g.ax := rfl
@[simp] theorem Gpr.set_si_cx (g : Gpr) (v : Word) : (g.set .si v).cx = g.cx := rfl
@[simp] theorem Gpr.set_si_dx (g : Gpr) (v : Word) : (g.set .si v).dx = g.dx := rfl
@[simp] theorem Gpr.set_si_bx (g : Gpr) (v : Word) : (g.set .si v).bx = g.bx := rfl
@[simp] theorem Gpr.set_si_sp (g : Gpr) (v : Word) : (g.set .si v).sp = g.sp := rfl
@[simp] theorem Gpr.set_si_bp (g : Gpr) (v : Word) : (g.set .si v).bp = g.bp := rfl
@[simp] theorem Gpr.set_si_di (g : Gpr) (v : Word) : (g.set .si v).di = g.di := rfl
@[simp] theorem Gpr.set_di_di (g : Gpr) (v : Word) : (g.set .di v).di = v := rfl
@[simp] theorem Gpr.set_di_ax (g : Gpr) (v : Word) : (g.set .di v).ax = g.ax := rfl
@[simp] theorem Gpr.set_di_cx (g : Gpr) (v : Word) : (g.set .di v).cx = g.cx := rfl
@[simp] theorem Gpr.set_di_dx (g : Gpr) (v : Word) : (g.set .di v).dx = g.dx := rfl
@[simp] theorem Gpr.set_di_bx (g : Gpr) (v : Word) : (g.set .di v).bx = g.bx := rfl
@[simp] theorem Gpr.set_di_sp (g : Gpr) (v : Word) : (g.set .di v).sp = g.sp := rfl
@[simp] theorem Gpr.set_di_bp (g : Gpr) (v : Word) : (g.set .di v).bp = g.bp := rfl
@[simp] theorem Gpr.set_di_si (g : Gpr) (v : Word) : (g.set .di v).si = g.si := rfl
@[simp] theorem SegRegs.set_es_es (g : SegRegs) (v : Word) : (g.set .es v).es = v := rfl
@[simp] theorem SegRegs.set_es_cs (g : SegRegs) (v : Word) : (g.set .es v).cs = g.cs := rfl
@[simp] theorem SegRegs.set_es_ss (g : SegRegs) (v : Word) : (g.set .es v).ss = g.ss := rfl
@[simp] theorem SegRegs.set_es_ds (g : SegRegs) (v : Word) : (g.set .es v).ds = g.ds := rfl
@[simp] theorem SegRegs.set_cs_cs (g : SegRegs) (v : Word) : (g.set .cs v).cs = v := rfl
@[simp] theorem SegRegs.set_cs_es (g : SegRegs) (v : Word) : (g.set .cs v).es = g.es := rfl
@[simp] theorem SegRegs.set_cs_ss (g : SegRegs) (v : Word) : (g.set .cs v).ss = g.ss := rfl
@[simp] theorem SegRegs.set_cs_ds (g : SegRegs) (v : Word) : (g.set .cs v).ds = g.ds := rfl
@[simp] theorem SegRegs.set_ss_ss (g : SegRegs) (v : Word) : (g.set .ss v).ss = v := rfl
@[simp] theorem SegRegs.set_ss_es (g : SegRegs) (v : Word) : (g.set .ss v).es = g.es := rfl
@[simp] theorem SegRegs.set_ss_cs (g : SegRegs) (v : Word) : (g.set .ss v).cs = g.cs := rfl
@[simp] theorem SegRegs.set_ss_ds (g : SegRegs) (v : Word) : (g.set .ss v).ds = g.ds := rfl
@[simp] theorem SegRegs.set_ds_ds (g : SegRegs) (v : Word) : (g.set .ds v).ds = v := rfl
@[simp] theorem SegRegs.set_ds_es (g : SegRegs) (v : Word) : (g.set .ds v).es = g.es := rfl
@[simp] theorem SegRegs.set_ds_cs (g : SegRegs) (v : Word) : (g.set .ds v).cs = g.cs := rfl
@[simp] theorem SegRegs.set_ds_ss (g : SegRegs) (v : Word) : (g.set .ds v).ss = g.ss := rfl

@[simp] theorem setReg16_gpr (r : Reg16) (v : Word) (s : State) : (setReg16 r v s).gpr = s.gpr.set r v := rfl

@[simp] theorem setSreg_seg (r : Sreg) (v : Word) (s : State) : (setSreg r v s).seg = s.seg.set r v := rfl

@[simp] theorem decSp_gpr (s : State) : (decSp s).gpr = s.gpr.set .sp (s.gpr.sp - 2#16) := rfl

/-! ### setReg16 -/

@[simp] theorem setReg16_seg (r : Reg16) (v : Word) (s : State) : (setReg16 r v s).seg = s.seg := rfl
@[simp] theorem setReg16_ip (r : Reg16) (v : Word) (s : State) : (setReg16 r v s).ip = s.ip := rfl
@[simp] theorem setReg16_flags (r : Reg16) (v : Word) (s : State) : (setReg16 r v s).flags = s.flags := rfl
@[simp] theorem setReg16_trap (r : Reg16) (v : Word) (s : State) : (setReg16 r v s).trap = s.trap := rfl
@[simp] theorem setReg16_debugBreak (r : Reg16) (v : Word) (s : State) : (setReg16 r v s).debugBreak = s.debugBreak := rfl
@[simp] theorem setReg16_icount (r : Reg16) (v : Word) (s : State) : (setReg16 r v s).icount = s.icount := rfl
@[simp] theorem setReg16_cycles (r : Reg16) (v : Word) (s : State) : (setReg16 r v s).cycles = s.cycles := rfl
@[simp] theorem setReg16_signal (r : Reg16) (v : Word) (s : State) : (setReg16 r v s).signal = s.signal := rfl
@[simp] theorem setReg16_dec (r : Reg16) (v : Word) (s : State) : (setReg16 r v s).dec = s.dec := rfl
@[simp] theorem setReg16_mem (r : Reg16) (v : Word) (s : State) : (setReg16 r v s).mem = s.mem := rfl
@[simp] theorem setReg16_memTable (r : Reg16) (v : Word) (s : State) : (setReg16 r v s).memTable = s.memTable := rfl
@[simp] theorem setReg16_ioTable (r : Reg16) (v : Word) (s : State) : (setReg16 r v s).ioTable = s.ioTable := rfl
@[simp] theorem setReg16_peripherals (r : Reg16) (v : Word) (s : State) : (setReg16 r v s).peripherals = s.peripherals := rfl
@[simp] theorem setReg16_softInt (r : Reg16) (v : Word) (s : State) : (setReg16 r v s).softInt = s.softInt := rfl
@[simp] theorem setReg16_pic (r : Reg16) (v : Word) (s : State) : (setReg16 r v s).pic = s.pic := rfl
@[simp] theorem setReg16_cpuMode (r : Reg16) (v : Word) (s : State) : (setReg16 r v s).cpuMode = s.cpuMode := rfl
@[simp] theorem setReg16_wordWrap (r : Reg16) (v : Word) (s : State) : (setReg16 r v s).wordWrap = s.wordWrap := rfl
@[simp] theorem setReg16_events (r : Reg16) (v : Word) (s : State) : (setReg16 r v s).events = s.events := rfl
@[simp] theorem setReg16_draws (r : Reg16) (v : Word) (s : State) : (setReg16 r v s).draws = s.draws := rfl
@[simp] theorem setReg16_sreg (r : Reg16) (v : Word) (s : State) (q : Sreg) : sreg q (setReg16 r v s) = sreg q s := sreg_congr (by simp) q
@[simp] theorem setReg16_flag (r : Reg16) (v : Word) (s : State) (q : Flag) : flag q (setReg16 r v s) = flag q s := flag_congr (by simp) q
@[simp] theorem setReg16_kindAt (r : Reg16) (v : Word) (s : State) (a : Addr) : kindAt (setReg16 r v s) a = kindAt s a := kindAt_congr (by simp) (by simp) a

/-! ### setReg8 -/

@[simp] theorem setReg8_seg (r : Reg8) (v : Byte) (s : State) : (setReg8 r v s).seg = s.seg := rfl
@[simp] theorem setReg8_ip (r : Reg8) (v : Byte) (s : State) : (setReg8 r v s).ip = s.ip := rfl
@[simp] theorem setReg8_flags (r : Reg8) (v : Byte) (s : State) : (setReg8 r v s).flags = s.flags := rfl
@[simp] theorem setReg8_trap (r : Reg8) (v : Byte) (s : State) : (setReg8 r v s).trap = s.trap := rfl
@[simp] theorem setReg8_debugBreak (r : Reg8) (v : Byte) (s : State) : (setReg8 r v s).debugBreak = s.debugBreak := rfl
@[simp] theorem setReg8_icount (r : Reg8) (v : Byte) (s : State) : (setReg8 r v s).icount = s.icount := rfl
@[simp] theorem setReg8_cycles (r : Reg8) (v : Byte) (s : State) : (setReg8 r v s).cycles = s.cycles := rfl
@[simp] theorem setReg8_signal (r : Reg8) (v : Byte) (s : State) : (setReg8 r v s).signal = s.signal := rfl
@[simp] theorem setReg8_dec (r : Reg8) (v : Byte) (s : State) : (setReg8 r v s).dec = s.dec := rfl
@[simp] theorem setReg8_mem (r : Reg8) (v : Byte) (s : State) : (setReg8 r v s).mem = s.mem := rfl
@[simp] theorem setReg8_memTable (r : Reg8) (v : Byte) (s : State) : (setReg8 r v s).memTable = s.memTable := rfl
@[simp] theorem setReg8_ioTable (r : Reg8) (v : Byte) (s : State) : (setReg8 r v s).ioTable = s.ioTable := rfl
@[simp] theorem setReg8_peripherals (r : Reg8) (v : Byte) (s : State) : (setReg8 r v s).peripherals = s.peripherals := rfl
@[simp] theorem setReg8_softInt (r : Reg8) (v : Byte) (s : State) : (setReg8 r v s).softInt = s.softInt := rfl
@[simp] theorem setReg8_pic (r : Reg8) (v : Byte) (s : State) : (setReg8 r v s).pic = s.pic := rfl
@[simp] theorem setReg8_cpuMode (r : Reg8) (v : Byte) (s : State) : (setReg8 r v s).cpuMode = s.cpuMode := rfl
@[simp] theorem setReg8_wordWrap (r : Reg8) (v : Byte) (s : State) : (setReg8 r v s).wordWrap = s.wordWrap := rfl
@[simp] theorem setReg8_events (r : Reg8) (v : Byte) (s : State) : (setReg8 r v s).events = s.events := rfl
@[simp] theorem setReg8_draws (r : Reg8) (v : Byte) (s : State) : (setReg8 r v s).draws = s.draws := rfl
@[simp] theorem setReg8_sreg (r : Reg8) (v : Byte) (s : State) (q : Sreg) : sreg q (setReg8 r v s) = sreg q s := sreg_congr (by simp) q
@[simp] theorem setReg8_flag (r : Reg8) (v : Byte) (s : State) (q : Flag) : flag q (setReg8 r v s) = flag q s := flag_congr (by simp) q
@[simp] theorem setReg8_kindAt (r : Reg8) (v : Byte) (s : State) (a : Addr) : kindAt (setReg8 r v s) a = kindAt s a := kindAt_congr (by simp) (by simp) a

/-! ### setSreg -/

@[simp] theorem setSreg_gpr (r : Sreg) (v : Word) (s : State) : (setSreg r v s).gpr = s.gpr := rfl
@[simp] theorem setSreg_ip (r : Sreg) (v : Word) (s : State) : (setSreg r v s).ip = s.ip := rfl
@[simp] theorem setSreg_flags (r : Sreg) (v : Word) (s : State) : (setSreg r v s).flags = s.flags := rfl
@[simp] theorem setSreg_trap (r : Sreg) (v : Word) (s : State) : (setSreg r v s).trap = s.trap := rfl
@[simp] theorem setSreg_debugBreak (r : Sreg) (v : Word) (s : State) : (setSreg r v s).debugBreak = s.debugBreak := rfl
@[simp] theorem setSreg_icount (r : Sreg) (v : Word) (s : State) : (setSreg r v s).icount = s.icount := rfl
@[simp] theorem setSreg_cycles (r : Sreg) (v : Word) (s : State) : (setSreg r v s).cycles = s.cycles := rfl
@[simp] theorem setSreg_signal (r : Sreg) (v : Word) (s : State) : (setSreg r v s).signal = s.signal := rfl
@[simp] theorem setSreg_dec (r : Sreg) (v : Word) (s : State) : (setSreg r v s).dec = s.dec := rfl
@[simp] theorem setSreg_mem (r : Sreg) (v : Word) (s : State) : (setSreg r v s).mem = s.mem := rfl
@[simp] theorem setSreg_memTable (r : Sreg) (v : Word) (s : State) : (setSreg r v s).memTable = s.memTable := rfl
@[simp] theorem setSreg_ioTable (r : Sreg) (v : Word) (s : State) : (setSreg r v s).ioTable = s.ioTable := rfl
@[simp] theorem setSreg_peripherals (r : Sreg) (v : Word) (s : State) : (setSreg r v s).peripherals = s.peripherals := rfl
@[simp] theorem setSreg_softInt (r : Sreg) (v : Word) (s : State) : (setSreg r v s).softInt = s.softInt := rfl
@[simp] theorem setSreg_pic (r : Sreg) (v : Word) (s : State) : (setSreg r v s).pic = s.pic := rfl
@[simp] theorem setSreg_cpuMode (r : Sreg) (v : Word) (s : State) : (setSreg r v s).cpuMode = s.cpuMode := rfl
@[simp] theorem setSreg_wordWrap (r : Sreg) (v : Word) (s : State) : (setSreg r v s).wordWrap = s.wordWrap := rfl
@[simp] theorem setSreg_events (r : Sreg) (v : Word) (s : State) : (setSreg r v s).events = s.events := rfl
@[simp] theorem setSreg_draws (r : Sreg) (v : Word) (s : State) : (setSreg r v s).draws = s.draws := rfl
@[simp] theorem setSreg_reg16 (r : Sreg) (v : Word) (s : State) (q : Reg16) : reg16 q (setSreg r v s) = reg16 q s := reg16_congr (by simp) q
@[simp] theorem setSreg_reg8 (r : Sreg) (v : Word) (s : State) (q : Reg8) : reg8 q (setSreg r v s) = reg8 q s := reg8_congr (by simp) q
@[simp] theorem setSreg_flag (r : Sreg) (v : Word) (s : State) (q : Flag) : flag q (setSreg r v s) = flag q s := flag_congr (by simp) q
@[simp] theorem setSreg_kindAt (r : Sreg) (v : Word) (s : State) (a : Addr) : kindAt (setSreg r v s) a = kindAt s a := kindAt_congr (by simp) (by simp) a

/-! ### setIp -/

@[simp] theorem setIp_gpr (v : Word) (s : State) : (setIp v s).gpr = s.gpr := rfl
@[simp] theorem setIp_seg (v : Word) (s : State) : (setIp v s).seg = s.seg := rfl
@[simp] theorem setIp_ip (v : Word) (s : State) : (setIp v s).ip = v := rfl
@[simp] theorem setIp_flags (v : Word) (s : State) : (setIp v s).flags = s.flags := rfl
@[simp] theorem setIp_trap (v : Word) (s : State) : (setIp v s).trap = s.trap := rfl
@[simp] theorem setIp_debugBreak (v : Word) (s : State) : (setIp v s).debugBreak = s.debugBreak := rfl
@[simp] theorem setIp_icount (v : Word) (s : State) : (setIp v s).icount = s.icount := rfl
@[simp] theorem setIp_cycles (v : Word) (s : State) : (setIp v s).cycles = s.cycles := rfl
@[simp] theorem setIp_signal (v : Word) (s : State) : (setIp v s).signal = s.signal := rfl
@[simp] theorem setIp_dec (v : Word) (s : State) : (setIp v s).dec = s.dec := rfl
@[simp] theorem setIp_mem (v : Word) (s : State) : (setIp v s).mem = s.mem := rfl
@[simp] theorem setIp_memTable (v : Word) (s : State) : (setIp v s).memTable = s.memTable := rfl
@[simp] theorem setIp_ioTable (v : Word) (s : State) : (setIp v s).ioTable = s.ioTable := rfl
@[simp] theorem setIp_peripherals (v : Word) (s : State) : (setIp v s).peripherals = s.peripherals := rfl
@[simp] theorem setIp_softInt (v : Word) (s : State) : (setIp v s).softInt = s.softInt := rfl
@[simp] theorem setIp_pic (v : Word) (s : State) : (setIp v s).pic = s.pic := rfl
@[simp] theorem setIp_cpuMode (v : Word) (s : State) : (setIp v s).cpuMode = s.cpuMode := rfl
@[simp] theorem setIp_wordWrap (v : Word) (s : State) : (setIp v s).wordWrap = s.wordWrap := rfl
@[simp] theorem setIp_events (v : Word) (s : State) : (setIp v s).events = s.events := rfl
@[simp] theorem setIp_draws (v : Word) (s : State) : (setIp v s).draws = s.draws := rfl
@[simp] theorem setIp_reg16 (v : Word) (s : State) (q : Reg16) : reg16 q (setIp v s) = reg16 q s := reg16_congr (by simp) q
@[simp] theorem setIp_reg8 (v : Word) (s : State) (q : Reg8) : reg8 q (setIp v s) = reg8 q s := reg8_congr (by simp) q
@[simp] theorem setIp_sreg (v : Word) (s : State) (q : Sreg) : sreg q (setIp v s) = sreg q s := sreg_congr (by simp) q
@[simp] theorem setIp_flag (v : Word) (s : State) (q : Flag) : flag q (setIp v s) = flag q s := flag_congr (by simp) q
@[simp] theorem setIp_kindAt (v : Word) (s : State) (a : Addr) : kindAt (setIp v s) a = kindAt s a := kindAt_congr (by simp) (by simp) a

/-! ### farTo -/

@[simp] theorem farTo_gpr (c v : Word) (s : State) : (farTo c v s).gpr = s.gpr := rfl
@[simp] theorem farTo_seg (c v : Word) (s : State) : (farTo c v s).seg = s.seg.set .cs c := rfl
@[simp] theorem farTo_ip (c v : Word) (s : State) : (farTo c v s).ip = v := rfl
@[simp] theorem farTo_flags (c v : Word) (s : State) : (farTo c v s).flags = s.flags := rfl
@[simp] theorem farTo_trap (c v : Word) (s : State) : (farTo c v s).trap = s.trap := rfl
@[simp] theorem farTo_debugBreak (c v : Word) (s : State) : (farTo c v s).debugBreak = s.debugBreak := rfl
@[simp] theorem farTo_icount (c v : Word) (s : State) : (farTo c v s).icount = s.icount := rfl
@[simp] theorem farTo_cycles (c v : Word) (s : State) : (farTo c v s).cycles = s.cycles := rfl
@[simp] theorem farTo_signal (c v : Word) (s : State) : (farTo c v s).signal = s.signal := rfl
@[simp] theorem farTo_dec (c v : Word) (s : State) : (farTo c v s).dec = s.dec := rfl
@[simp] theorem farTo_mem (c v : Word) (s : State) : (farTo c v s).mem = s.mem := rfl
@[simp] theorem farTo_memTable (c v : Word) (s : State) : (farTo c v s).memTable = s.memTable := rfl
@[simp] theorem farTo_ioTable (c v : Word) (s : State) : (farTo c v s).ioTable = s.ioTable := rfl
@[simp] theorem farTo_peripherals (c v : Word) (s : State) : (farTo c v s).peripherals = s.peripherals := rfl
@[simp] theorem farTo_softInt (c v : Word) (s : State) : (farTo c v s).softInt = s.softInt := rfl
@[simp] theorem farTo_pic (c v : Word) (s : State) : (farTo c v s).pic = s.pic := rfl
@[simp] theorem farTo_cpuMode (c v : Word) (s : State) : (farTo c v s).cpuMode = s.cpuMode := rfl
@[simp] theorem farTo_wordWrap (c v : Word) (s : State) : (farTo c v s).wordWrap = s.wordWrap := rfl
@[simp] theorem farTo_events (c v : Word) (s : State) : (farTo c v s).events = s.events := rfl
@[simp] theorem farTo_draws (c v : Word) (s : State) : (farTo c v s).draws = s.draws := rfl
@[simp] theorem farTo_reg16 (c v : Word) (s : State) (q : Reg16) : reg16 q (farTo c v s) = reg16 q s := reg16_congr (by simp) q
@[simp] theorem farTo_reg8 (c v : Word) (s : State) (q : Reg8) : reg8 q (farTo c v s) = reg8 q s := reg8_congr (by simp) q
@[simp] theorem farTo_flag (c v : Word) (s : State) (q : Flag) : flag q (farTo c v s) = flag q s := flag_congr (by simp) q
@[simp] theorem farTo_kindAt (c v : Word) (s : State) (a : Addr) : kindAt (farTo c v s) a = kindAt s a := kindAt_congr (by simp) (by simp) a

/-! ### setFlag -/

@[simp] theorem setFlag_gpr (f : Flag) (b : Bool) (s : State) : (setFlag f b s).gpr = s.gpr := rfl
@[simp] theorem setFlag_seg (f : Flag) (b : Bool) (s : State) : (setFlag f b s).seg = s.seg := rfl
@[simp] theorem setFlag_ip (f : Flag) (b : Bool) (s : State) : (setFlag f b s).ip = s.ip := rfl
@[simp] theorem setFlag_flags (f : Flag) (b : Bool) (s : State) : (setFlag f b s).flags = putFlag f b s.flags := rfl
@[simp] theorem setFlag_trap (f : Flag) (b : Bool) (s : State) : (setFlag f b s).trap = s.trap := rfl
@[simp] theorem setFlag_debugBreak (f : Flag) (b : Bool) (s : State) : (setFlag f b s).debugBreak = s.debugBreak := rfl
@[simp] theorem setFlag_icount (f : Flag) (b : Bool) (s : State) : (setFlag f b s).icount = s.icount := rfl
@[simp] theorem setFlag_cycles (f : Flag) (b : Bool) (s : State) : (setFlag f b s).cycles = s.cycles := rfl
@[simp] theorem setFlag_signal (f : Flag) (b : Bool) (s : State) : (setFlag f b s).signal = s.signal := rfl
@[simp] theorem setFlag_dec (f : Flag) (b : Bool) (s : State) : (setFlag f b s).dec = s.dec := rfl
@[simp] theorem setFlag_mem (f : Flag) (b : Bool) (s : State) : (setFlag f b s).mem = s.mem := rfl
@[simp] theorem setFlag_memTable (f : Flag) (b : Bool) (s : State) : (setFlag f b s).memTable = s.memTable := rfl
@[simp] theorem setFlag_ioTable (f : Flag) (b : Bool) (s : State) : (setFlag f b s).ioTable = s.ioTable := rfl
@[simp] theorem setFlag_peripherals (f : Flag) (b : Bool) (s : State) : (setFlag f b s).peripherals = s.peripherals := rfl
@[simp] theorem setFlag_softInt (f : Flag) (b : Bool) (s : State) : (setFlag f b s).softInt = s.softInt := rfl
@[simp] theorem setFlag_pic (f : Flag) (b : Bool) (s : State) : (setFlag f b s).pic = s.pic := rfl
@[simp] theorem setFlag_cpuMode (f : Flag) (b : Bool) (s : State) : (setFlag f b s).cpuMode = s.cpuMode := rfl
@[simp] theorem setFlag_wordWrap (f : Flag) (b : Bool) (s : State) : (setFlag f b s).wordWrap = s.wordWrap := rfl
@[simp] theorem setFlag_events (f : Flag) (b : Bool) (s : State) : (setFlag f b s).events = s.events := rfl
@[simp] theorem setFlag_draws (f : Flag) (b : Bool) (s : State) : (setFlag f b s).draws = s.draws := rfl
@[simp] theorem setFlag_reg16 (f : Flag) (b : Bool) (s : State) (q : Reg16) : reg16 q (setFlag f b s) = reg16 q s := reg16_congr (by simp) q
@[simp] theorem setFlag_reg8 (f : Flag) (b : Bool) (s : State) (q : Reg8) : reg8 q (setFlag f b s) = reg8 q s := reg8_congr (by simp) q
@[simp] theorem setFlag_sreg (f : Flag) (b : Bool) (s : State) (q : Sreg) : sreg q (setFlag f b s) = sreg q s := sreg_congr (by simp) q
@[simp] theorem setFlag_kindAt (f : Flag) (b : Bool) (s : State) (a : Addr) : kindAt (setFlag f b s) a = kindAt s a := kindAt_congr (by simp) (by simp) a

/-! ### setFlags -/

@[simp] theorem setFlags_gpr (w : Word) (s : State) : (setFlags w s).gpr = s.gpr := rfl
@[simp] theorem setFlags_seg (w : Word) (s : State) : (setFlags w s).seg = s.seg := rfl
@[simp] theorem setFlags_ip (w : Word) (s : State) : (setFlags w s).ip = s.ip := rfl
@[simp] theorem setFlags_flags (w : Word) (s : State) : (setFlags w s).flags = w := rfl
@[simp] theorem setFlags_trap (w : Word) (s : State) : (setFlags w s).trap = s.trap := rfl
@[simp] theorem setFlags_debugBreak (w : Word) (s : State) : (setFlags w s).debugBreak = s.debugBreak := rfl
@[simp] theorem setFlags_icount (w : Word) (s : State) : (setFlags w s).icount = s.icount := rfl
@[simp] theorem setFlags_cycles (w : Word) (s : State) : (setFlags w s).cycles = s.cycles := rfl
@[simp] theorem setFlags_signal (w : Word) (s : State) : (setFlags w s).signal = s.signal := rfl
@[simp] theorem setFlags_dec (w : Word) (s : State) : (setFlags w s).dec = s.dec := rfl
@[simp] theorem setFlags_mem (w : Word) (s : State) : (setFlags w s).mem = s.mem := rfl
@[simp] theorem setFlags_memTable (w : Word) (s : State) : (setFlags w s).memTable = s.memTable := rfl
@[simp] theorem setFlags_ioTable (w : Word) (s : State) : (setFlags w s).ioTable = s.ioTable := rfl
@[simp] theorem setFlags_peripherals (w : Word) (s : State) : (setFlags w s).peripherals = s.peripherals := rfl
@[simp] theorem setFlags_softInt (w : Word) (s : State) : (setFlags w s).softInt = s.softInt := rfl
@[simp] theorem setFlags_pic (w : Word) (s : State) : (setFlags w s).pic = s.pic := rfl
@[simp] theorem setFlags_cpuMode (w : Word) (s : State) : (setFlags w s).cpuMode = s.cpuMode := rfl
@[simp] theorem setFlags_wordWrap (w : Word) (s : State) : (setFlags w s).wordWrap = s.wordWrap := rfl
@[simp] theorem setFlags_events (w : Word) (s : State) : (setFlags w s).events = s.events := rfl
@[simp] theorem setFlags_draws (w : Word) (s : State) : (setFlags w s).draws = s.draws := rfl
@[simp] theorem setFlags_reg16 (w : Word) (s : State) (q : Reg16) : reg16 q (setFlags w s) = reg16 q s := reg16_congr (by simp) q
@[simp] theorem setFlags_reg8 (w : Word) (s : State) (q : Reg8) : reg8 q (setFlags w s) = reg8 q s := reg8_congr (by simp) q
@[simp] theorem setFlags_sreg (w : Word) (s : State) (q : Sreg) : sreg q (setFlags w s) = sreg q s := sreg_congr (by simp) q
@[simp] theorem setFlags_kindAt (w : Word) (s : State) (a : Addr) : kindAt (setFlags w s) a = kindAt s a := kindAt_congr (by simp) (by simp) a

/-! ### storeFlags -/

@[simp] theorem storeFlags_gpr (w : Word) (s : State) : (storeFlags w s).gpr = s.gpr := rfl
@[simp] theorem storeFlags_seg (w : Word) (s : State) : (storeFlags w s).seg = s.seg := rfl
@[simp] theorem storeFlags_ip (w : Word) (s : State) : (storeFlags w s).ip = s.ip := rfl
@[simp] theorem storeFlags_flags (w : Word) (s : State) : (storeFlags w s).flags = storeWord w := rfl
@[simp] theorem storeFlags_trap (w : Word) (s : State) : (storeFlags w s).trap = s.trap := rfl
@[simp] theorem storeFlags_debugBreak (w : Word) (s : State) : (storeFlags w s).debugBreak = s.debugBreak := rfl
@[simp] theorem storeFlags_icount (w : Word) (s : State) : (storeFlags w s).icount = s.icount := rfl
@[simp] theorem storeFlags_cycles (w : Word) (s : State) : (storeFlags w s).cycles = s.cycles := rfl
@[simp] theorem storeFlags_signal (w : Word) (s : State) : (storeFlags w s).signal = s.signal := rfl
@[simp] theorem storeFlags_dec (w : Word) (s : State) : (storeFlags w s).dec = s.dec := rfl
@[simp] theorem storeFlags_mem (w : Word) (s : State) : (storeFlags w s).mem = s.mem := rfl
@[simp] theorem storeFlags_memTable (w : Word) (s : State) : (storeFlags w s).memTable = s.memTable := rfl
@[simp] theorem storeFlags_ioTable (w : Word) (s : State) : (storeFlags w s).ioTable = s.ioTable := rfl
@[simp] theorem storeFlags_peripherals (w : Word) (s : State) : (storeFlags w s).peripherals = s.peripherals := rfl
@[simp] theorem storeFlags_softInt (w : Word) (s : State) : (storeFlags w s).softInt = s.softInt := rfl
@[simp] theorem storeFlags_pic (w : Word) (s : State) : (storeFlags w s).pic = s.pic := rfl
@[simp] theorem storeFlags_cpuMode (w : Word) (s : State) : (storeFlags w s).cpuMode = s.cpuMode := rfl
@[simp] theorem storeFlags_wordWrap (w : Word) (s : State) : (storeFlags w s).wordWrap = s.wordWrap := rfl
@[simp] theorem storeFlags_events (w : Word) (s : State) : (storeFlags w s).events = s.events := rfl
@[simp] theorem storeFlags_draws (w : Word) (s : State) : (storeFlags w s).draws = s.draws := rfl
@[simp] theorem storeFlags_reg16 (w : Word) (s : State) (q : Reg16) : reg16 q (storeFlags w s) = reg16 q s := reg16_congr (by simp) q
@[simp] theorem storeFlags_reg8 (w : Word) (s : State) (q : Reg8) : reg8 q (storeFlags w s) = reg8 q s := reg8_congr (by simp) q
@[simp] theorem storeFlags_sreg (w : Word) (s : State) (q : Sreg) : sreg q (storeFlags w s) = sreg q s := sreg_congr (by simp) q
@[simp] theorem storeFlags_kindAt (w : Word) (s : State) (a : Addr) : kindAt (storeFlags w s) a = kindAt s a := kindAt_congr (by simp) (by simp) a

/-! ### clearTfIf -/

@[simp] theorem clearTfIf_gpr (s : State) : (clearTfIf s).gpr = s.gpr := rfl
@[simp] theorem clearTfIf_seg (s : State) : (clearTfIf s).seg = s.seg := rfl
@[simp] theorem clearTfIf_ip (s : State) : (clearTfIf s).ip = s.ip := rfl
@[simp] theorem clearTfIf_flags (s : State) : (clearTfIf s).flags = putFlag .interrupt false (putFlag .trap false s.flags) := rfl
@[simp] theorem clearTfIf_trap (s : State) : (clearTfIf s).trap = s.trap := rfl
@[simp] theorem clearTfIf_debugBreak (s : State) : (clearTfIf s).debugBreak = s.debugBreak := rfl
@[simp] theorem clearTfIf_icount (s : State) : (clearTfIf s).icount = s.icount := rfl
@[simp] theorem clearTfIf_cycles (s : State) : (clearTfIf s).cycles = s.cycles := rfl
@[simp] theorem clearTfIf_signal (s : State) : (clearTfIf s).signal = s.signal := rfl
@[simp] theorem clearTfIf_dec (s : State) : (clearTfIf s).dec = s.dec := rfl
@[simp] theorem clearTfIf_mem (s : State) : (clearTfIf s).mem = s.mem := rfl
@[simp] theorem clearTfIf_memTable (s : State) : (clearTfIf s).memTable = s.memTable := rfl
@[simp] theorem clearTfIf_ioTable (s : State) : (clearTfIf s).ioTable = s.ioTable := rfl
@[simp] theorem clearTfIf_peripherals (s : State) : (clearTfIf s).peripherals = s.peripherals := rfl
@[simp] theorem clearTfIf_softInt (s : State) : (clearTfIf s).softInt = s.softInt := rfl
@[simp] theorem clearTfIf_pic (s : State) : (clearTfIf s).pic = s.pic := rfl
@[simp] theorem clearTfIf_cpuMode (s : State) : (clearTfIf s).cpuMode = s.cpuMode := rfl
@[simp] theorem clearTfIf_wordWrap (s : State) : (clearTfIf s).wordWrap = s.wordWrap := rfl
@[simp] theorem clearTfIf_events (s : State) : (clearTfIf s).events = s.events := rfl
@[simp] theorem clearTfIf_draws (s : State) : (clearTfIf s).draws = s.draws := rfl
@[simp] theorem clearTfIf_reg16 (s : State) (q : Reg16) : reg16 q (clearTfIf s) = reg16 q s := reg16_congr (by simp) q
@[simp] theorem clearTfIf_reg8 (s : State) (q : Reg8) : reg8 q (clearTfIf s) = reg8 q s := reg8_congr (by simp) q
@[simp] theorem clearTfIf_sreg (s : State) (q : Sreg) : sreg q (clearTfIf s) = sreg q s := sreg_congr (by simp) q
@[simp] theorem clearTfIf_kindAt (s : State) (a : Addr) : kindAt (clearTfIf s) a = kindAt s a := kindAt_congr (by simp) (by simp) a

/-! ### decSp -/

@[simp] theorem decSp_seg (s : State) : (decSp s).seg = s.seg := rfl
@[simp] theorem decSp_ip (s : State) : (decSp s).ip = s.ip := rfl
@[simp] theorem decSp_flags (s : State) : (decSp s).flags = s.flags := rfl
@[simp] theorem decSp_trap (s : State) : (decSp s).trap = s.trap := rfl
@[simp] theorem decSp_debugBreak (s : State) : (decSp s).debugBreak = s.debugBreak := rfl
@[simp] theorem decSp_icount (s : State) : (decSp s).icount = s.icount := rfl
@[simp] theorem decSp_cycles (s : State) : (decSp s).cycles = s.cycles := rfl
@[simp] theorem decSp_signal (s : State) : (decSp s).signal = s.signal := rfl
@[simp] theorem decSp_dec (s : State) : (decSp s).dec = s.dec := rfl
@[simp] theorem decSp_mem (s : State) : (decSp s).mem = s.mem := rfl
@[simp] theorem decSp_memTable (s : State) : (decSp s).memTable = s.memTable := rfl
@[simp] theorem decSp_ioTable (s : State) : (decSp s).ioTable = s.ioTable := rfl
@[simp] theorem decSp_peripherals (s : State) : (decSp s).peripherals = s.peripherals := rfl
@[simp] theorem decSp_softInt (s : State) : (decSp s).softInt = s.softInt := rfl
@[simp] theorem decSp_pic (s : State) : (decSp s).pic = s.pic := rfl
@[simp] theorem decSp_cpuMode (s : State) : (decSp s).cpuMode = s.cpuMode := rfl
@[simp] theorem decSp_wordWrap (s : State) : (decSp s).wordWrap = s.wordWrap := rfl
@[simp] theorem decSp_events (s : State) : (decSp s).events = s.events := rfl
@[simp] theorem decSp_draws (s : State) : (decSp s).draws = s.draws := rfl
@[simp] theorem decSp_sreg (s : State) (q : Sreg) : sreg q (decSp s) = sreg q s := sreg_congr (by simp) q
@[simp] theorem decSp_flag (s : State) (q : Flag) : flag q (decSp s) = flag q s := flag_congr (by simp) q
@[simp] theorem decSp_kindAt (s : State) (a : Addr) : kindAt (decSp s) a = kindAt s a := kindAt_congr (by simp) (by simp) a

/-! ### rollBack -/

@[simp] theorem rollBack_gpr (s : State) : (rollBack s).gpr = s.gpr := rfl
@[simp] theorem rollBack_seg (s : State) : (rollBack s).seg = s.seg := rfl
@[simp] theorem rollBack_ip (s : State) : (rollBack s).ip = s.dec.start := rfl
@[simp] theorem rollBack_flags (s : State) : (rollBack s).flags = s.flags := rfl
@[simp] theorem rollBack_trap (s : State) : (rollBack s).trap = s.trap := rfl
@[simp] theorem rollBack_debugBreak (s : State) : (rollBack s).debugBreak = s.debugBreak := rfl
@[simp] theorem rollBack_icount (s : State) : (rollBack s).icount = s.icount := rfl
@[simp] theorem rollBack_cycles (s : State) : (rollBack s).cycles = s.cycles := rfl
@[simp] theorem rollBack_signal (s : State) : (rollBack s).signal = s.signal := rfl
@[simp] theorem rollBack_dec (s : State) : (rollBack s).dec = s.dec := rfl
@[simp] theorem rollBack_mem (s : State) : (rollBack s).mem = s.mem := rfl
@[simp] theorem rollBack_memTable (s : State) : (rollBack s).memTable = s.memTable := rfl
@[simp] theorem rollBack_ioTable (s : State) : (rollBack s).ioTable = s.ioTable := rfl
@[simp] theorem rollBack_peripherals (s : State) : (rollBack s).peripherals = s.peripherals := rfl
@[simp] theorem rollBack_softInt (s : State) : (rollBack s).softInt = s.softInt := rfl
@[simp] theorem rollBack_pic (s : State) : (rollBack s).pic = s.pic := rfl
@[simp] theorem rollBack_cpuMode (s : State) : (rollBack s).cpuMode = s.cpuMode := rfl
@[simp] theorem rollBack_wordWrap (s : State) : (rollBack s).wordWrap = s.wordWrap := rfl
@[simp] theorem rollBack_events (s : State) : (rollBack s).events = s.events := rfl
@[simp] theorem rollBack_draws (s : State) : (rollBack s).draws = s.draws := rfl
@[simp] theorem rollBack_reg16 (s : State) (q : Reg16) : reg16 q (rollBack s) = reg16 q s := reg16_congr (by simp) q
@[simp] theorem rollBack_reg8 (s : State) (q : Reg8) : reg8 q (rollBack s) = reg8 q s := reg8_congr (by simp) q
@[simp] theorem rollBack_sreg (s : State) (q : Sreg) : sreg q (rollBack s) = sreg q s := sreg_congr (by simp) q
@[simp] theorem rollBack_flag (s : State) (q : Flag) : flag q (rollBack s) = flag q s := flag_congr (by simp) q
@[simp] theorem rollBack_kindAt (s : State) (a : Addr) : kindAt (rollBack s) a = kindAt s a := kindAt_congr (by simp) (by simp) a

/-! ### beginStep -/

@[simp] theorem beginStep_gpr (s : State) : (beginStep s).gpr = s.gpr := rfl
@[simp] theorem beginStep_seg (s : State) : (beginStep s).seg = s.seg := rfl
@[simp] theorem beginStep_ip (s : State) : (beginStep s).ip = s.ip := rfl
@[simp] theorem beginStep_flags (s : State) : (beginStep s).flags = s.flags := rfl
@[simp] theorem beginStep_trap (s : State) : (beginStep s).trap = s.trap := rfl
@[simp] theorem beginStep_debugBreak (s : State) : (beginStep s).debugBreak = s.debugBreak := rfl
@[simp] theorem beginStep_icount (s : State) : (beginStep s).icount = s.icount := rfl
@[simp] theorem beginStep_cycles (s : State) : (beginStep s).cycles = 0 := rfl
@[simp] theorem beginStep_signal (s : State) : (beginStep s).signal = .ok := rfl
@[simp] theorem beginStep_dec (s : State) : (beginStep s).dec = s.dec := rfl
@[simp] theorem beginStep_mem (s : State) : (beginStep s).mem = s.mem := rfl
@[simp] theorem beginStep_memTable (s : State) : (beginStep s).memTable = s.memTable := rfl
@[simp] theorem beginStep_ioTable (s : State) : (beginStep s).ioTable = s.ioTable := rfl
@[simp] theorem beginStep_peripherals (s : State) : (beginStep s).peripherals = s.peripherals := rfl
@[simp] theorem beginStep_softInt (s : State) : (beginStep s).softInt = s.softInt := rfl
@[simp] theorem beginStep_pic (s : State) : (beginStep s).pic = s.pic := rfl
@[simp] theorem beginStep_cpuMode (s : State) : (beginStep s).cpuMode = s.cpuMode := rfl
@[simp] theorem beginStep_wordWrap (s : State) : (beginStep s).wordWrap = s.wordWrap := rfl
@[simp] theorem beginStep_events (s : State) : (beginStep s).events = s.events := rfl
@[simp] theorem beginStep_draws (s : State) : (beginStep s).draws = s.draws := rfl
@[simp] theorem beginStep_reg16 (s : State) (q : Reg16) : reg16 q (beginStep s) = reg16 q s := reg16_congr (by simp) q
@[simp] theorem beginStep_reg8 (s : State) (q : Reg8) : reg8 q (beginStep s) = reg8 q s := reg8_congr (by simp) q
@[simp] theorem beginStep_sreg (s : State) (q : Sreg) : sreg q (beginStep s) = sreg q s := sreg_congr (by simp) q
@[simp] theorem beginStep_flag (s : State) (q : Flag) : flag q (beginStep s) = flag q s := flag_congr (by simp) q
@[simp] theorem beginStep_kindAt (s : State) (a : Addr) : kindAt (beginStep s) a = kindAt s a := kindAt_congr (by simp) (by simp) a

/-! ### armTrap -/

@[simp] theorem armTrap_gpr (s : State) : (armTrap s).gpr = s.gpr := rfl
@[simp] theorem armTrap_seg (s : State) : (armTrap s).seg = s.seg := rfl
@[simp] theorem armTrap_ip (s : State) : (armTrap s).ip = s.ip := rfl
@[simp] theorem armTrap_flags (s : State) : (armTrap s).flags = s.flags := rfl
@[simp] theorem armTrap_trap (s : State) : (armTrap s).trap = flag .trap s := rfl
@[simp] theorem armTrap_debugBreak (s : State) : (armTrap s).debugBreak = s.debugBreak := rfl
@[simp] theorem armTrap_icount (s : State) : (armTrap s).icount = s.icount := rfl
@[simp] theorem armTrap_cycles (s : State) : (armTrap s).cycles = s.cycles := rfl
@[simp] theorem armTrap_signal (s : State) : (armTrap s).signal = s.signal := rfl
@[simp] theorem armTrap_dec (s : State) : (armTrap s).dec = s.dec := rfl
@[simp] theorem armTrap_mem (s : State) : (armTrap s).mem = s.mem := rfl
@[simp] theorem armTrap_memTable (s : State) : (armTrap s).memTable = s.memTable := rfl
@[simp] theorem armTrap_ioTable (s : State) : (armTrap s).ioTable = s.ioTable := rfl
@[simp] theorem armTrap_peripherals (s : State) : (armTrap s).peripherals = s.peripherals := rfl
@[simp] theorem armTrap_softInt (s : State) : (armTrap s).softInt = s.softInt := rfl
@[simp] theorem armTrap_pic (s : State) : (armTrap s).pic = s.pic := rfl
@[simp] theorem armTrap_cpuMode (s : State) : (armTrap s).cpuMode = s.cpuMode := rfl
@[simp] theorem armTrap_wordWrap (s : State) : (armTrap s).wordWrap = s.wordWrap := rfl
@[simp] theorem armTrap_events (s : State) : (armTrap s).events = s.events := rfl
@[simp] theorem armTrap_draws (s : State) : (armTrap s).draws = s.draws := rfl
@[simp] theorem armTrap_reg16 (s : State) (q : Reg16) : reg16 q (armTrap s) = reg16 q s := reg16_congr (by simp) q
@[simp] theorem armTrap_reg8 (s : State) (q : Reg8) : reg8 q (armTrap s) = reg8 q s := reg8_congr (by simp) q
@[simp] theorem armTrap_sreg (s : State) (q : Sreg) : sreg q (armTrap s) = sreg q s := sreg_congr (by simp) q
@[simp] theorem armTrap_flag (s : State) (q : Flag) : flag q (armTrap s) = flag q s := flag_congr (by simp) q
@[simp] theorem armTrap_kindAt (s : State) (a : Addr) : kindAt (armTrap s) a = kindAt s a := kindAt_congr (by simp) (by simp) a

/-! ### beginDecode -/

@[simp] theorem beginDecode_gpr (s : State) : (beginDecode s).gpr = s.gpr := rfl
@[simp] theorem beginDecode_seg (s : State) : (beginDecode s).seg = s.seg := rfl
@[simp] theorem beginDecode_ip (s : State) : (beginDecode s).ip = s.ip := rfl
@[simp] theorem beginDecode_flags (s : State) : (beginDecode s).flags = s.flags := rfl
@[simp] theorem beginDecode_trap (s : State) : (beginDecode s).trap = s.trap := rfl
@[simp] theorem beginDecode_debugBreak (s : State) : (beginDecode s).debugBreak = s.debugBreak := rfl
@[simp] theorem beginDecode_icount (s : State) : (beginDecode s).icount = s.icount := rfl
@[simp] theorem beginDecode_cycles (s : State) : (beginDecode s).cycles = s.cycles := rfl
@[simp] theorem beginDecode_signal (s : State) : (beginDecode s).signal = s.signal := rfl
@[simp] theorem beginDecode_dec (s : State) : (beginDecode s).dec = { start := s.ip, segOverride := none, rep := .off } := rfl
@[simp] theorem beginDecode_mem (s : State) : (beginDecode s).mem = s.mem := rfl
@[simp] theorem beginDecode_memTable (s : State) : (beginDecode s).memTable = s.memTable := rfl
@[simp] theorem beginDecode_ioTable (s : State) : (beginDecode s).ioTable = s.ioTable := rfl
@[simp] theorem beginDecode_peripherals (s : State) : (beginDecode s).peripherals = s.peripherals := rfl
@[simp] theorem beginDecode_softInt (s : State) : (beginDecode s).softInt = s.softInt := rfl
@[simp] theorem beginDecode_pic (s : State) : (beginDecode s).pic = s.pic := rfl
@[simp] theorem beginDecode_cpuMode (s : State) : (beginDecode s).cpuMode = s.cpuMode := rfl
@[simp] theorem beginDecode_wordWrap (s : State) : (beginDecode s).wordWrap = s.wordWrap := rfl
@[simp] theorem beginDecode_events (s : State) : (beginDecode s).events = s.events := rfl
@[simp] theorem beginDecode_draws (s : State) : (beginDecode s).draws = s.draws := rfl
@[simp] theorem beginDecode_reg16 (s : State) (q : Reg16) : reg16 q (beginDecode s) = reg16 q s := reg16_congr (by simp) q
@[simp] theorem beginDecode_reg8 (s : State) (q : Reg8) : reg8 q (beginDecode s) = reg8 q s := reg8_congr (by simp) q
@[simp] theorem beginDecode_sreg (s : State) (q : Sreg) : sreg q (beginDecode s) = sreg q s := sreg_congr (by simp) q
@[simp] theorem beginDecode_flag (s : State) (q : Flag) : flag q (beginDecode s) = flag q s := flag_congr (by simp) q
@[simp] theorem beginDecode_kindAt (s : State) (a : Addr) : kindAt (beginDecode s) a = kindAt s a := kindAt_congr (by simp) (by simp) a

/-! ### undefFlags -/

@[simp] theorem undefFlags_gpr (fs : List Flag) (s : State) : (undefFlags fs s).gpr = s.gpr := by induction fs generalizing s with
  | nil => rfl
  | cons f fs ih => exact ih _
@[simp] theorem undefFlags_seg (fs : List Flag) (s : State) : (undefFlags fs s).seg = s.seg := by induction fs generalizing s with
  | nil => rfl
  | cons f fs ih => exact ih _
@[simp] theorem undefFlags_ip (fs : List Flag) (s : State) : (undefFlags fs s).ip = s.ip := by induction fs generalizing s with
  | nil => rfl
  | cons f fs ih => exact ih _
@[simp] theorem undefFlags_trap (fs : List Flag) (s : State) : (undefFlags fs s).trap = s.trap := by induction fs generalizing s with
  | nil => rfl
  | cons f fs ih => exact ih _
@[simp] theorem undefFlags_debugBreak (fs : List Flag) (s : State) : (undefFlags fs s).debugBreak = s.debugBreak := by induction fs generalizing s with
  | nil => rfl
  | cons f fs ih => exact ih _
@[simp] theorem undefFlags_icount (fs : List Flag) (s : State) : (undefFlags fs s).icount = s.icount := by induction fs generalizing s with
  | nil => rfl
  | cons f fs ih => exact ih _
@[simp] theorem undefFlags_cycles (fs : List Flag) (s : State) : (undefFlags fs s).cycles = s.cycles := by induction fs generalizing s with
  | nil => rfl
  | cons f fs ih => exact ih _
@[simp] theorem undefFlags_signal (fs : List Flag) (s : State) : (undefFlags fs s).signal = s.signal := by induction fs generalizing s with
  | nil => rfl
  | cons f fs ih => exact ih _
@[simp] theorem undefFlags_dec (fs : List Flag) (s : State) : (undefFlags fs s).dec = s.dec := by induction fs generalizing s with
  | nil => rfl
  | cons f fs ih => exact ih _
@[simp] theorem undefFlags_mem (fs : List Flag) (s : State) : (undefFlags fs s).mem = s.mem := by induction fs generalizing s with
  | nil => rfl
  | cons f fs ih => exact ih _
@[simp] theorem undefFlags_memTable (fs : List Flag) (s : State) : (undefFlags fs s).memTable = s.memTable := by induction fs generalizing s with
  | nil => rfl
  | cons f fs ih => exact ih _
@[simp] theorem undefFlags_ioTable (fs : List Flag) (s : State) : (undefFlags fs s).ioTable = s.ioTable := by induction fs generalizing s with
  | nil => rfl
  | cons f fs ih => exact ih _
@[simp] theorem undefFlags_peripherals (fs : List Flag) (s : State) : (undefFlags fs s).peripherals = s.peripherals := by induction fs generalizing s with
  | nil => rfl
  | cons f fs ih => exact ih _
@[simp] theorem undefFlags_softInt (fs : List Flag) (s : State) : (undefFlags fs s).softInt = s.softInt := by induction fs generalizing s with
  | nil => rfl
  | cons f fs ih => exact ih _
@[simp] theorem undefFlags_pic (fs : List Flag) (s : State) : (undefFlags fs s).pic = s.pic := by induction fs generalizing s with
  | nil => rfl
  | cons f fs ih => exact ih _
@[simp] theorem undefFlags_cpuMode (fs : List Flag) (s : State) : (undefFlags fs s).cpuMode = s.cpuMode := by induction fs generalizing s with
  | nil => rfl
  | cons f fs ih => exact ih _
@[simp] theorem undefFlags_wordWrap (fs : List Flag) (s : State) : (undefFlags fs s).wordWrap = s.wordWrap := by induction fs generalizing s with
  | nil => rfl
  | cons f fs ih => exact ih _
@[simp] theorem undefFlags_events (fs : List Flag) (s : State) : (undefFlags fs s).events = s.events := by induction fs generalizing s with
  | nil => rfl
  | cons f fs ih => exact ih _
@[simp] theorem undefFlags_reg16 (fs : List Flag) (s : State) (q : Reg16) : reg16 q (undefFlags fs s) = reg16 q s := reg16_congr (by simp) q
@[simp] theorem undefFlags_reg8 (fs : List Flag) (s : State) (q : Reg8) : reg8 q (undefFlags fs s) = reg8 q s := reg8_congr (by simp) q
@[simp] theorem undefFlags_sreg (fs : List Flag) (s : State) (q : Sreg) : sreg q (undefFlags fs s) = sreg q s := sreg_congr (by simp) q
@[simp] theorem undefFlags_kindAt (fs : List Flag) (s : State) (a : Addr) : kindAt (undefFlags fs s) a = kindAt s a := kindAt_congr (by simp) (by simp) a

/-! ### busRead8 -/

@[simp] theorem busRead8_gpr (a : Addr) (s : State) : (busRead8 a s).2.gpr = s.gpr := by unfold busRead8; split <;> rfl
@[simp] theorem busRead8_seg (a : Addr) (s : State) : (busRead8 a s).2.seg = s.seg := by unfold busRead8; split <;> rfl
@[simp] theorem busRead8_ip (a : Addr) (s : State) : (busRead8 a s).2.ip = s.ip := by unfold busRead8; split <;> rfl
@[simp] theorem busRead8_flags (a : Addr) (s : State) : (busRead8 a s).2.flags = s.flags := by unfold busRead8; split <;> rfl
@[simp] theorem busRead8_trap (a : Addr) (s : State) : (busRead8 a s).2.trap = s.trap := by unfold busRead8; split <;> rfl
@[simp] theorem busRead8_debugBreak (a : Addr) (s : State) : (busRead8 a s).2.debugBreak = s.debugBreak := by unfold busRead8; split <;> rfl
@[simp] theorem busRead8_icount (a : Addr) (s : State) : (busRead8 a s).2.icount = s.icount := by unfold busRead8; split <;> rfl
@[simp] theorem busRead8_cycles (a : Addr) (s : State) : (busRead8 a s).2.cycles = s.cycles := by unfold busRead8; split <;> rfl
@[simp] theorem busRead8_signal (a : Addr) (s : State) : (busRead8 a s).2.signal = s.signal := by unfold busRead8; split <;> rfl
@[simp] theorem busRead8_dec (a : Addr) (s : State) : (busRead8 a s).2.dec = s.dec := by unfold busRead8; split <;> rfl
@[simp] theorem busRead8_mem (a : Addr) (s : State) : (busRead8 a s).2.mem = s.mem := by unfold busRead8; split <;> rfl
@[simp] theorem busRead8_memTable (a : Addr) (s : State) : (busRead8 a s).2.memTable = s.memTable := by unfold busRead8; split <;> rfl
@[simp] theorem busRead8_ioTable (a : Addr) (s : State) : (busRead8 a s).2.ioTable = s.ioTable := by unfold busRead8; split <;> rfl
@[simp] theorem busRead8_peripherals (a : Addr) (s : State) : (busRead8 a s).2.peripherals = s.peripherals := by unfold busRead8; split <;> rfl
@[simp] theorem busRead8_softInt (a : Addr) (s : State) : (busRead8 a s).2.softInt = s.softInt := by unfold busRead8; split <;> rfl
@[simp] theorem busRead8_pic (a : Addr) (s : State) : (busRead8 a s).2.pic = s.pic := by unfold busRead8; split <;> rfl
@[simp] theorem busRead8_cpuMode (a : Addr) (s : State) : (busRead8 a s).2.cpuMode = s.cpuMode := by unfold busRead8; split <;> rfl
@[simp] theorem busRead8_wordWrap (a : Addr) (s : State) : (busRead8 a s).2.wordWrap = s.wordWrap := by unfold busRead8; split <;> rfl
@[simp] theorem busRead8_reg16 (a : Addr) (s : State) (q : Reg16) : reg16 q ((busRead8 a s).2) = reg16 q s := reg16_congr (by simp) q
@[simp] theorem busRead8_reg8 (a : Addr) (s : State) (q : Reg8) : reg8 q ((busRead8 a s).2) = reg8 q s := reg8_congr (by simp) q
@[simp] theorem busRead8_sreg (a : Addr) (s : State) (q : Sreg) : sreg q ((busRead8 a s).2) = sreg q s := sreg_congr (by simp) q
@[simp] theorem busRead8_flag (a : Addr) (s : State) (q : Flag) : flag q ((busRead8 a s).2) = flag q s := flag_congr (by simp) q
@[simp] theorem busRead8_kindAt (a' : Addr) (s : State) (a : Addr) : kindAt ((busRead8 a' s).2) a = kindAt s a := kindAt_congr (by simp) (by simp) a

/-! ### memRead8 -/

@[simp] theorem memRead8_gpr (g o : Word) (s : State) : (memRead8 g o s).2.gpr = s.gpr := by simp [memRead8]
@[simp] theorem memRead8_seg (g o : Word) (s : State) : (memRead8 g o s).2.seg = s.seg := by simp [memRead8]
@[simp] theorem memRead8_ip (g o : Word) (s : State) : (memRead8 g o s).2.ip = s.ip := by simp [memRead8]
@[simp] theorem memRead8_flags (g o : Word) (s : State) : (memRead8 g o s).2.flags = s.flags := by simp [memRead8]
@[simp] theorem memRead8_trap (g o : Word) (s : State) : (memRead8 g o s).2.trap = s.trap := by simp [memRead8]
@[simp] theorem memRead8_debugBreak (g o : Word) (s : State) : (memRead8 g o s).2.debugBreak = s.debugBreak := by simp [memRead8]
@[simp] theorem memRead8_icount (g o : Word) (s : State) : (memRead8 g o s).2.icount = s.icount := by simp [memRead8]
@[simp] theorem memRead8_cycles (g o : Word) (s : State) : (memRead8 g o s).2.cycles = s.cycles := by simp [memRead8]
@[simp] theorem memRead8_signal (g o : Word) (s : State) : (memRead8 g o s).2.signal = s.signal := by simp [memRead8]
@[simp] theorem memRead8_dec (g o : Word) (s : State) : (memRead8 g o s).2.dec = s.dec := by simp [memRead8]
@[simp] theorem memRead8_mem (g o : Word) (s : State) : (memRead8 g o s).2.mem = s.mem := by simp [memRead8]
@[simp] theorem memRead8_memTable (g o : Word) (s : State) : (memRead8 g o s).2.memTable = s.memTable := by simp [memRead8]
@[simp] theorem memRead8_ioTable (g o : Word) (s : State) : (memRead8 g o s).2.ioTable = s.ioTable := by simp [memRead8]
@[simp] theorem memRead8_peripherals (g o : Word) (s : State) : (memRead8 g o s).2.peripherals = s.peripherals := by simp [memRead8]
@[simp] theorem memRead8_softInt (g o : Word) (s : State) : (memRead8 g o s).2.softInt = s.softInt := by simp [memRead8]
@[simp] theorem memRead8_pic (g o : Word) (s : State) : (memRead8 g o s).2.pic = s.pic := by simp [memRead8]
@[simp] theorem memRead8_cpuMode (g o : Word) (s : State) : (memRead8 g o s).2.cpuMode = s.cpuMode := by simp [memRead8]
@[simp] theorem memRead8_wordWrap (g o : Word) (s : State) : (memRead8 g o s).2.wordWrap = s.wordWrap := by simp [memRead8]
@[simp] theorem memRead8_reg16 (g o : Word) (s : State) (q : Reg16) : reg16 q ((memRead8 g o s).2) = reg16 q s := reg16_congr (by simp) q
@[simp] theorem memRead8_reg8 (g o : Word) (s : State) (q : Reg8) : reg8 q ((memRead8 g o s).2) = reg8 q s := reg8_congr (by simp) q
@[simp] theorem memRead8_sreg (g o : Word) (s : State) (q : Sreg) : sreg q ((memRead8 g o s).2) = sreg q s := sreg_congr (by simp) q
@[simp] theorem memRead8_flag (g o : Word) (s : State) (q : Flag) : flag q ((memRead8 g o s).2) = flag q s := flag_congr (by simp) q
@[simp] theorem memRead8_kindAt (g o : Word) (s : State) (a : Addr) : kindAt ((memRead8 g o s).2) a = kindAt s a := kindAt_congr (by simp) (by simp) a

/-! ### memRead16 -/

@[simp] theorem memRead16_gpr (g o : Word) (s : State) : (memRead16 g o s).2.gpr = s.gpr := by simp [memRead16]
@[simp] theorem memRead16_seg (g o : Word) (s : State) : (memRead16 g o s).2.seg = s.seg := by simp [memRead16]
@[simp] theorem memRead16_ip (g o : Word) (s : State) : (memRead16 g o s).2.ip = s.ip := by simp [memRead16]
@[simp] theorem memRead16_flags (g o : Word) (s : State) : (memRead16 g o s).2.flags = s.flags := by simp [memRead16]
@[simp] theorem memRead16_trap (g o : Word) (s : State) : (memRead16 g o s).2.trap = s.trap := by simp [memRead16]
@[simp] theorem memRead16_debugBreak (g o : Word) (s : State) : (memRead16 g o s).2.debugBreak = s.debugBreak := by simp [memRead16]
@[simp] theorem memRead16_icount (g o : Word) (s : State) : (memRead16 g o s).2.icount = s.icount := by simp [memRead16]
@[simp] theorem memRead16_cycles (g o : Word) (s : State) : (memRead16 g o s).2.cycles = s.cycles := by simp [memRead16]
@[simp] theorem memRead16_signal (g o : Word) (s : State) : (memRead16 g o s).2.signal = s.signal := by simp [memRead16]
@[simp] theorem memRead16_dec (g o : Word) (s : State) : (memRead16 g o s).2.dec = s.dec := by simp [memRead16]
@[simp] theorem memRead16_mem (g o : Word) (s : State) : (memRead16 g o s).2.mem = s.mem := by simp [memRead16]
@[simp] theorem memRead16_memTable (g o : Word) (s : State) : (memRead16 g o s).2.memTable = s.memTable := by simp [memRead16]
@[simp] theorem memRead16_ioTable (g o : Word) (s : State) : (memRead16 g o s).2.ioTable = s.ioTable := by simp [memRead16]
@[simp] theorem memRead16_peripherals (g o : Word) (s : State) : (memRead16 g o s).2.peripherals = s.peripherals := by simp [memRead16]
@[simp] theorem memRead16_softInt (g o : Word) (s : State) : (memRead16 g o s).2.softInt = s.softInt := by simp [memRead16]
@[simp] theorem memRead16_pic (g o : Word) (s : State) : (memRead16 g o s).2.pic = s.pic := by simp [memRead16]
@[simp] theorem memRead16_cpuMode (g o : Word) (s : State) : (memRead16 g o s).2.cpuMode = s.cpuMode := by simp [memRead16]
@[simp] theorem memRead16_wordWrap (g o : Word) (s : State) : (memRead16 g o s).2.wordWrap = s.wordWrap := by simp [memRead16]
@[simp] theorem memRead16_reg16 (g o : Word) (s : State) (q : Reg16) : reg16 q ((memRead16 g o s).2) = reg16 q s := reg16_congr (by simp) q
@[simp] theorem memRead16_reg8 (g o : Word) (s : State) (q : Reg8) : reg8 q ((memRead16 g o s).2) = reg8 q s := reg8_congr (by simp) q
@[simp] theorem memRead16_sreg (g o : Word) (s : State) (q : Sreg) : sreg q ((memRead16 g o s).2) = sreg q s := sreg_congr (by simp) q
@[simp] theorem memRead16_flag (g o : Word) (s : State) (q : Flag) : flag q ((memRead16 g o s).2) = flag q s := flag_congr (by simp) q
@[simp] theorem memRead16_kindAt (g o : Word) (s : State) (a : Addr) : kindAt ((memRead16 g o s).2) a = kindAt s a := kindAt_congr (by simp) (by simp) a

/-! ### fetch8 -/

@[simp] theorem fetch8_gpr (s : State) : (fetch8 s).2.gpr = s.gpr := by simp [fetch8]
@[simp] theorem fetch8_seg (s : State) : (fetch8 s).2.seg = s.seg := by simp [fetch8]
@[simp] theorem fetch8_ip (s : State) : (fetch8 s).2.ip = s.ip + 1#16 := rfl
@[simp] theorem fetch8_flags (s : State) : (fetch8 s).2.flags = s.flags := by simp [fetch8]
@[simp] theorem fetch8_trap (s : State) : (fetch8 s).2.trap = s.trap := by simp [fetch8]
@[simp] theorem fetch8_debugBreak (s : State) : (fetch8 s).2.debugBreak = s.debugBreak := by simp [fetch8]
@[simp] theorem fetch8_icount (s : State) : (fetch8 s).2.icount = s.icount := by simp [fetch8]
@[simp] theorem fetch8_cycles (s : State) : (fetch8 s).2.cycles = s.cycles := by simp [fetch8]
@[simp] theorem fetch8_signal (s : State) : (fetch8 s).2.signal = s.signal := by simp [fetch8]
@[simp] theorem fetch8_dec (s : State) : (fetch8 s).2.dec = s.dec := by simp [fetch8]
@[simp] theorem fetch8_mem (s : State) : (fetch8 s).2.mem = s.mem := by simp [fetch8]
@[simp] theorem fetch8_memTable (s : State) : (fetch8 s).2.memTable = s.memTable := by simp [fetch8]
@[simp] theorem fetch8_ioTable (s : State) : (fetch8 s).2.ioTable = s.ioTable := by simp [fetch8]
@[simp] theorem fetch8_peripherals (s : State) : (fetch8 s).2.peripherals = s.peripherals := by simp [fetch8]
@[simp] theorem fetch8_softInt (s : State) : (fetch8 s).2.softInt = s.softInt := by simp [fetch8]
@[simp] theorem fetch8_pic (s : State) : (fetch8 s).2.pic = s.pic := by simp [fetch8]
@[simp] theorem fetch8_cpuMode (s : State) : (fetch8 s).2.cpuMode = s.cpuMode := by simp [fetch8]
@[simp] theorem fetch8_wordWrap (s : State) : (fetch8 s).2.wordWrap = s.wordWrap := by simp [fetch8]
@[simp] theorem fetch8_reg16 (s : State) (q : Reg16) : reg16 q ((fetch8 s).2) = reg16 q s := reg16_congr (by simp) q
@[simp] theorem fetch8_reg8 (s : State) (q : Reg8) : reg8 q ((fetch8 s).2) = reg8 q s := reg8_congr (by simp) q
@[simp] theorem fetch8_sreg (s : State) (q : Sreg) : sreg q ((fetch8 s).2) = sreg q s := sreg_congr (by simp) q
@[simp] theorem fetch8_flag (s : State) (q : Flag) : flag q ((fetch8 s).2) = flag q s := flag_congr (by simp) q
@[simp] theorem fetch8_kindAt (s : State) (a : Addr) : kindAt ((fetch8 s).2) a = kindAt s a := kindAt_congr (by simp) (by simp) a

/-! ### fetchBytes -/

@[simp] theorem fetchBytes_gpr (k : Nat) (s : State) : (fetchBytes k s).2.gpr = s.gpr := by induction k generalizing s with
  | zero => rfl
  | succ k ih => simp [fetchBytes, ih]
@[simp] theorem fetchBytes_seg (k : Nat) (s : State) : (fetchBytes k s).2.seg = s.seg := by induction k generalizing s with
  | zero => rfl
  | succ k ih => simp [fetchBytes, ih]
@[simp] theorem fetchBytes_flags (k : Nat) (s : State) : (fetchBytes k s).2.flags = s.flags := by induction k generalizing s with
  | zero => rfl
  | succ k ih => simp [fetchBytes, ih]
@[simp] theorem fetchBytes_trap (k : Nat) (s : State) : (fetchBytes k s).2.trap = s.trap := by induction k generalizing s with
  | zero => rfl
  | succ k ih => simp [fetchBytes, ih]
@[simp] theorem fetchBytes_debugBreak (k : Nat) (s : State) : (fetchBytes k s).2.debugBreak = s.debugBreak := by induction k generalizing s with
  | zero => rfl
  | succ k ih => simp [fetchBytes, ih]
@[simp] theorem fetchBytes_icount (k : Nat) (s : State) : (fetchBytes k s).2.icount = s.icount := by induction k generalizing s with
  | zero => rfl
  | succ k ih => simp [fetchBytes, ih]
@[simp] theorem fetchBytes_cycles (k : Nat) (s : State) : (fetchBytes k s).2.cycles = s.cycles := by induction k generalizing s with
  | zero => rfl
  | succ k ih => simp [fetchBytes, ih]
@[simp] theorem fetchBytes_signal (k : Nat) (s : State) : (fetchBytes k s).2.signal = s.signal := by induction k generalizing s with
  | zero => rfl
  | succ k ih => simp [fetchBytes, ih]
@[simp] theorem fetchBytes_dec (k : Nat) (s : State) : (fetchBytes k s).2.dec = s.dec := by induction k generalizing s with
  | zero => rfl
  | succ k ih => simp [fetchBytes, ih]
@[simp] theorem fetchBytes_mem (k : Nat) (s : State) : (fetchBytes k s).2.mem = s.mem := by induction k generalizing s with
  | zero => rfl
  | succ k ih => simp [fetchBytes, ih]
@[simp] theorem fetchBytes_memTable (k : Nat) (s : State) : (fetchBytes k s).2.memTable = s.memTable := by induction k generalizing s with
  | zero => rfl
  | succ k ih => simp [fetchBytes, ih]
@[simp] theorem fetchBytes_ioTable (k : Nat) (s : State) : (fetchBytes k s).2.ioTable = s.ioTable := by induction k generalizing s with
  | zero => rfl
  | succ k ih => simp [fetchBytes, ih]
@[simp] theorem fetchBytes_peripherals (k : Nat) (s : State) : (fetchBytes k s).2.peripherals = s.peripherals := by induction k generalizing s with
  | zero => rfl
  | succ k ih => simp [fetchBytes, ih]
@[simp] theorem fetchBytes_softInt (k : Nat) (s : State) : (fetchBytes k s).2.softInt = s.softInt := by induction k generalizing s with
  | zero => rfl
  | succ k ih => simp [fetchBytes, ih]
@[simp] theorem fetchBytes_pic (k : Nat) (s : State) : (fetchBytes k s).2.pic = s.pic := by induction k generalizing s with
  | zero => rfl
  | succ k ih => simp [fetchBytes, ih]
@[simp] theorem fetchBytes_cpuMode (k : Nat) (s : State) : (fetchBytes k s).2.cpuMode = s.cpuMode := by induction k generalizing s with
  | zero => rfl
  | succ k ih => simp [fetchBytes, ih]
@[simp] theorem fetchBytes_wordWrap (k : Nat) (s : State) : (fetchBytes k s).2.wordWrap = s.wordWrap := by induction k generalizing s with
  | zero => rfl
  | succ k ih => simp [fetchBytes, ih]
@[simp] theorem fetchBytes_reg16 (k : Nat) (s : State) (q : Reg16) : reg16 q ((fetchBytes k s).2) = reg16 q s := reg16_congr (by simp) q
@[simp] theorem fetchBytes_reg8 (k : Nat) (s : State) (q : Reg8) : reg8 q ((fetchBytes k s).2) = reg8 q s := reg8_congr (by simp) q
@[simp] theorem fetchBytes_sreg (k : Nat) (s : State) (q : Sreg) : sreg q ((fetchBytes k s).2) = sreg q s := sreg_congr (by simp) q
@[simp] theorem fetchBytes_flag (k : Nat) (s : State) (q : Flag) : flag q ((fetchBytes k s).2) = flag q s := flag_congr (by simp) q
@[simp] theorem fetchBytes_kindAt (k : Nat) (s : State) (a : Addr) : kindAt ((fetchBytes k s).2) a = kindAt s a := kindAt_congr (by simp) (by simp) a

/-! ### busWrite8 -/

@[simp] theorem busWrite8_gpr (a : Addr) (v : Byte) (s : State) : (busWrite8 a v s).gpr = s.gpr := by unfold busWrite8; split <;> rfl
@[simp] theorem busWrite8_seg (a : Addr) (v : Byte) (s : State) : (busWrite8 a v s).seg = s.seg := by unfold busWrite8; split <;> rfl
@[simp] theorem busWrite8_ip (a : Addr) (v : Byte) (s : State) : (busWrite8 a v s).ip = s.ip := by unfold busWrite8; split <;> rfl
@[simp] theorem busWrite8_flags (a : Addr) (v : Byte) (s : State) : (busWrite8 a v s).flags = s.flags := by unfold busWrite8; split <;> rfl
@[simp] theorem busWrite8_trap (a : Addr) (v : Byte) (s : State) : (busWrite8 a v s).trap = s.trap := by unfold busWrite8; split <;> rfl
@[simp] theorem busWrite8_debugBreak (a : Addr) (v : Byte) (s : State) : (busWrite8 a v s).debugBreak = s.debugBreak := by unfold busWrite8; split <;> rfl
@[simp] theorem busWrite8_icount (a : Addr) (v : Byte) (s : State) : (busWrite8 a v s).icount = s.icount := by unfold busWrite8; split <;> rfl
@[simp] theorem busWrite8_cycles (a : Addr) (v : Byte) (s : State) : (busWrite8 a v s).cycles = s.cycles := by unfold busWrite8; split <;> rfl
@[simp] theorem busWrite8_signal (a : Addr) (v : Byte) (s : State) : (busWrite8 a v s).signal = s.signal := by unfold busWrite8; split <;> rfl
@[simp] theorem busWrite8_dec (a : Addr) (v : Byte) (s : State) : (busWrite8 a v s).dec = s.dec := by unfold busWrite8; split <;> rfl
@[simp] theorem busWrite8_memTable (a : Addr) (v : Byte) (s : State) : (busWrite8 a v s).memTable = s.memTable := by unfold busWrite8; split <;> rfl
@[simp] theorem busWrite8_ioTable (a : Addr) (v : Byte) (s : State) : (busWrite8 a v s).ioTable = s.ioTable := by unfold busWrite8; split <;> rfl
@[simp] theorem busWrite8_peripherals (a : Addr) (v : Byte) (s : State) : (busWrite8 a v s).peripherals = s.peripherals := by unfold busWrite8; split <;> rfl
@[simp] theorem busWrite8_softInt (a : Addr) (v : Byte) (s : State) : (busWrite8 a v s).softInt = s.softInt := by unfold busWrite8; split <;> rfl
@[simp] theorem busWrite8_pic (a : Addr) (v : Byte) (s : State) : (busWrite8 a v s).pic = s.pic := by unfold busWrite8; split <;> rfl
@[simp] theorem busWrite8_cpuMode (a : Addr) (v : Byte) (s : State) : (busWrite8 a v s).cpuMode = s.cpuMode := by unfold busWrite8; split <;> rfl
@[simp] theorem busWrite8_wordWrap (a : Addr) (v : Byte) (s : State) : (busWrite8 a v s).wordWrap = s.wordWrap := by unfold busWrite8; split <;> rfl
@[simp] theorem busWrite8_draws (a : Addr) (v : Byte) (s : State) : (busWrite8 a v s).draws = s.draws := by unfold busWrite8; split <;> rfl
@[simp] theorem busWrite8_reg16 (a : Addr) (v : Byte) (s : State) (q : Reg16) : reg16 q (busWrite8 a v s) = reg16 q s := reg16_congr (by simp) q
@[simp] theorem busWrite8_reg8 (a : Addr) (v : Byte) (s : State) (q : Reg8) : reg8 q (busWrite8 a v s) = reg8 q s := reg8_congr (by simp) q
@[simp] theorem busWrite8_sreg (a : Addr) (v : Byte) (s : State) (q : Sreg) : sreg q (busWrite8 a v s) = sreg q s := sreg_congr (by simp) q
@[simp] theorem busWrite8_flag (a : Addr) (v : Byte) (s : State) (q : Flag) : flag q (busWrite8 a v s) = flag q s := flag_congr (by simp) q
@[simp] theorem busWrite8_kindAt (a' : Addr) (v : Byte) (s : State) (a : Addr) : kindAt (busWrite8 a' v s) a = kindAt s a := kindAt_congr (by simp) (by simp) a

/-! ### memWrite8 -/

@[simp] theorem memWrite8_gpr (g o : Word) (v : Byte) (s : State) : (memWrite8 g o v s).gpr = s.gpr := by simp [memWrite8]
@[simp] theorem memWrite8_seg (g o : Word) (v : Byte) (s : State) : (memWrite8 g o v s).seg = s.seg := by simp [memWrite8]
@[simp] theorem memWrite8_ip (g o : Word) (v : Byte) (s : State) : (memWrite8 g o v s).ip = s.ip := by simp [memWrite8]
@[simp] theorem memWrite8_flags (g o : Word) (v : Byte) (s : State) : (memWrite8 g o v s).flags = s.flags := by simp [memWrite8]
@[simp] theorem memWrite8_trap (g o : Word) (v : Byte) (s : State) : (memWrite8 g o v s).trap = s.trap := by simp [memWrite8]
@[simp] theorem memWrite8_debugBreak (g o : Word) (v : Byte) (s : State) : (memWrite8 g o v s).debugBreak = s.debugBreak := by simp [memWrite8]
@[simp] theorem memWrite8_icount (g o : Word) (v : Byte) (s : State) : (memWrite8 g o v s).icount = s.icount := by simp [memWrite8]
@[simp] theorem memWrite8_cycles (g o : Word) (v : Byte) (s : State) : (memWrite8 g o v s).cycles = s.cycles := by simp [memWrite8]
@[simp] theorem memWrite8_signal (g o : Word) (v : Byte) (s : State) : (memWrite8 g o v s).signal = s.signal := by simp [memWrite8]
@[simp] theorem memWrite8_dec (g o : Word) (v : Byte) (s : State) : (memWrite8 g o v s).dec = s.dec := by simp [memWrite8]
@[simp] theorem memWrite8_memTable (g o : Word) (v : Byte) (s : State) : (memWrite8 g o v s).memTable = s.memTable := by simp [memWrite8]
@[simp] theorem memWrite8_ioTable (g o : Word) (v : Byte) (s : State) : (memWrite8 g o v s).ioTable = s.ioTable := by simp [memWrite8]
@[simp] theorem memWrite8_peripherals (g o : Word) (v : Byte) (s : State) : (memWrite8 g o v s).peripherals = s.peripherals := by simp [memWrite8]
@[simp] theorem memWrite8_softInt (g o : Word) (v : Byte) (s : State) : (memWrite8 g o v s).softInt = s.softInt := by simp [memWrite8]
@[simp] theorem memWrite8_pic (g o : Word) (v : Byte) (s : State) : (memWrite8 g o v s).pic = s.pic := by simp [memWrite8]
@[simp] theorem memWrite8_cpuMode (g o : Word) (v : Byte) (s : State) : (memWrite8 g o v s).cpuMode = s.cpuMode := by simp [memWrite8]
@[simp] theorem memWrite8_wordWrap (g o : Word) (v : Byte) (s : State) : (memWrite8 g o v s).wordWrap = s.wordWrap := by simp [memWrite8]
@[simp] theorem memWrite8_draws (g o : Word) (v : Byte) (s : State) : (memWrite8 g o v s).draws = s.draws := by simp [memWrite8]
@[simp] theorem memWrite8_reg16 (g o : Word) (v : Byte) (s : State) (q : Reg16) : reg16 q (memWrite8 g o v s) = reg16 q s := reg16_congr (by simp) q
@[simp] theorem memWrite8_reg8 (g o : Word) (v : Byte) (s : State) (q : Reg8) : reg8 q (memWrite8 g o v s) = reg8 q s := reg8_congr (by simp) q
@[simp] theorem memWrite8_sreg (g o : Word) (v : Byte) (s : State) (q : Sreg) : sreg q (memWrite8 g o v s) = sreg q s := sreg_congr (by simp) q
@[simp] theorem memWrite8_flag (g o : Word) (v : Byte) (s : State) (q : Flag) : flag q (memWrite8 g o v s) = flag q s := flag_congr (by simp) q
@[simp] theorem memWrite8_kindAt (g o : Word) (v : Byte) (s : State) (a : Addr) : kindAt (memWrite8 g o v s) a = kindAt s a := kindAt_congr (by simp) (by simp) a

/-! ### memWrite16 -/

@[simp] theorem memWrite16_gpr (g o : Word) (v : Word) (s : State) : (memWrite16 g o v s).gpr = s.gpr := by simp [memWrite16]
@[simp] theorem memWrite16_seg (g o : Word) (v : Word) (s : State) : (memWrite16 g o v s).seg = s.seg := by simp [memWrite16]
@[simp] theorem memWrite16_ip (g o : Word) (v : Word) (s : State) : (memWrite16 g o v s).ip = s.ip := by simp [memWrite16]
@[simp] theorem memWrite16_flags (g o : Word) (v : Word) (s : State) : (memWrite16 g o v s).flags = s.flags := by simp [memWrite16]
@[simp] theorem memWrite16_trap (g o : Word) (v : Word) (s : State) : (memWrite16 g o v s).trap = s.trap := by simp [memWrite16]
@[simp] theorem memWrite16_debugBreak (g o : Word) (v : Word) (s : State) : (memWrite16 g o v s).debugBreak = s.debugBreak := by simp [memWrite16]
@[simp] theorem memWrite16_icount (g o : Word) (v : Word) (s : State) : (memWrite16 g o v s).icount = s.icount := by simp [memWrite16]
@[simp] theorem memWrite16_cycles (g o : Word) (v : Word) (s : State) : (memWrite16 g o v s).cycles = s.cycles := by simp [memWrite16]
@[simp] theorem memWrite16_signal (g o : Word) (v : Word) (s : State) : (memWrite16 g o v s).signal = s.signal := by simp [memWrite16]
@[simp] theorem memWrite16_dec (g o : Word) (v : Word) (s : State) : (memWrite16 g o v s).dec = s.dec := by simp [memWrite16]
@[simp] theorem memWrite16_memTable (g o : Word) (v : Word) (s : State) : (memWrite16 g o v s).memTable = s.memTable := by simp [memWrite16]
@[simp] theorem memWrite16_ioTable (g o : Word) (v : Word) (s : State) : (memWrite16 g o v s).ioTable = s.ioTable := by simp [memWrite16]
@[simp] theorem memWrite16_peripherals (g o : Word) (v : Word) (s : State) : (memWrite16 g o v s).peripherals = s.peripherals := by simp [memWrite16]
@[simp] theorem memWrite16_softInt (g o : Word) (v : Word) (s : State) : (memWrite16 g o v s).softInt = s.softInt := by simp [memWrite16]
@[simp] theorem memWrite16_pic (g o : Word) (v : Word) (s : State) : (memWrite16 g o v s).pic = s.pic := by simp [memWrite16]
@[simp] theorem memWrite16_cpuMode (g o : Word) (v : Word) (s : State) : (memWrite16 g o v s).cpuMode = s.cpuMode := by simp [memWrite16]
@[simp] theorem memWrite16_wordWrap (g o : Word) (v : Word) (s : State) : (memWrite16 g o v s).wordWrap = s.wordWrap := by simp [memWrite16]
@[simp] theorem memWrite16_draws (g o : Word) (v : Word) (s : State) : (memWrite16 g o v s).draws = s.draws := by simp [memWrite16]
@[simp] theorem memWrite16_reg16 (g o : Word) (v : Word) (s : State) (q : Reg16) : reg16 q (memWrite16 g o v s) = reg16 q s := reg16_congr (by simp) q
@[simp] theorem memWrite16_reg8 (g o : Word) (v : Word) (s : State) (q : Reg8) : reg8 q (memWrite16 g o v s) = reg8 q s := reg8_congr (by simp) q
@[simp] theorem memWrite16_sreg (g o : Word) (v : Word) (s : State) (q : Sreg) : sreg q (memWrite16 g o v s) = sreg q s := sreg_congr (by simp) q
@[simp] theorem memWrite16_flag (g o : Word) (v : Word) (s : State) (q : Flag) : flag q (memWrite16 g o v s) = flag q s := flag_congr (by simp) q
@[simp] theorem memWrite16_kindAt (g o : Word) (v : Word) (s : State) (a : Addr) : kindAt (memWrite16 g o v s) a = kindAt s a := kindAt_congr (by simp) (by simp) a

/-! ### ioIn8 -/

@[simp] theorem ioIn8_gpr (p : Word) (s : State) : (ioIn8 p s).2.gpr = s.gpr := by unfold ioIn8; split <;> rfl
@[simp] theorem ioIn8_seg (p : Word) (s : State) : (ioIn8 p s).2.seg = s.seg := by unfold ioIn8; split <;> rfl
@[simp] theorem ioIn8_ip (p : Word) (s : State) : (ioIn8 p s).2.ip = s.ip := by unfold ioIn8; split <;> rfl
@[simp] theorem ioIn8_flags (p : Word) (s : State) : (ioIn8 p s).2.flags = s.flags := by unfold ioIn8; split <;> rfl
@[simp] theorem ioIn8_trap (p : Word) (s : State) : (ioIn8 p s).2.trap = s.trap := by unfold ioIn8; split <;> rfl
@[simp] theorem ioIn8_debugBreak (p : Word) (s : State) : (ioIn8 p s).2.debugBreak = s.debugBreak := by unfold ioIn8; split <;> rfl
@[simp] theorem ioIn8_icount (p : Word) (s : State) : (ioIn8 p s).2.icount = s.icount := by unfold ioIn8; split <;> rfl
@[simp] theorem ioIn8_cycles (p : Word) (s : State) : (ioIn8 p s).2.cycles = s.cycles := by unfold ioIn8; split <;> rfl
@[simp] theorem ioIn8_signal (p : Word) (s : State) : (ioIn8 p s).2.signal = s.signal := by unfold ioIn8; split <;> rfl
@[simp] theorem ioIn8_dec (p : Word) (s : State) : (ioIn8 p s).2.dec = s.dec := by unfold ioIn8; split <;> rfl
@[simp] theorem ioIn8_mem (p : Word) (s : State) : (ioIn8 p s).2.mem = s.mem := by unfold ioIn8; split <;> rfl
@[simp] theorem ioIn8_memTable (p : Word) (s : State) : (ioIn8 p s).2.memTable = s.memTable := by unfold ioIn8; split <;> rfl
@[simp] theorem ioIn8_ioTable (p : Word) (s : State) : (ioIn8 p s).2.ioTable = s.ioTable := by unfold ioIn8; split <;> rfl
@[simp] theorem ioIn8_peripherals (p : Word) (s : State) : (ioIn8 p s).2.peripherals = s.peripherals := by unfold ioIn8; split <;> rfl
@[simp] theorem ioIn8_softInt (p : Word) (s : State) : (ioIn8 p s).2.softInt = s.softInt := by unfold ioIn8; split <;> rfl
@[simp] theorem ioIn8_pic (p : Word) (s : State) : (ioIn8 p s).2.pic = s.pic := by unfold ioIn8; split <;> rfl
@[simp] theorem ioIn8_cpuMode (p : Word) (s : State) : (ioIn8 p s).2.cpuMode = s.cpuMode := by unfold ioIn8; split <;> rfl
@[simp] theorem ioIn8_wordWrap (p : Word) (s : State) : (ioIn8 p s).2.wordWrap = s.wordWrap := by unfold ioIn8; split <;> rfl
@[simp] theorem ioIn8_reg16 (p : Word) (s : State) (q : Reg16) : reg16 q ((ioIn8 p s).2) = reg16 q s := reg16_congr (by simp) q
@[simp] theorem ioIn8_reg8 (p : Word) (s : State) (q : Reg8) : reg8 q ((ioIn8 p s).2) = reg8 q s := reg8_congr (by simp) q
@[simp] theorem ioIn8_sreg (p : Word) (s : State) (q : Sreg) : sreg q ((ioIn8 p s).2) = sreg q s := sreg_congr (by simp) q
@[simp] theorem ioIn8_flag (p : Word) (s : State) (q : Flag) : flag q ((ioIn8 p s).2) = flag q s := flag_congr (by simp) q
@[simp] theorem ioIn8_kindAt (p : Word) (s : State) (a : Addr) : kindAt ((ioIn8 p s).2) a = kindAt s a := kindAt_congr (by simp) (by simp) a

/-! ### ioIn16 -/

@[simp] theorem ioIn16_gpr (p : Word) (s : State) : (ioIn16 p s).2.gpr = s.gpr := by simp [ioIn16]
@[simp] theorem ioIn16_seg (p : Word) (s : State) : (ioIn16 p s).2.seg = s.seg := by simp [ioIn16]
@[simp] theorem ioIn16_ip (p : Word) (s : State) : (ioIn16 p s).2.ip = s.ip := by simp [ioIn16]
@[simp] theorem ioIn16_flags (p : Word) (s : State) : (ioIn16 p s).2.flags = s.flags := by simp [ioIn16]
@[simp] theorem ioIn16_trap (p : Word) (s : State) : (ioIn16 p s).2.trap = s.trap := by simp [ioIn16]
@[simp] theorem ioIn16_debugBreak (p : Word) (s : State) : (ioIn16 p s).2.debugBreak = s.debugBreak := by simp [ioIn16]
@[simp] theorem ioIn16_icount (p : Word) (s : State) : (ioIn16 p s).2.icount = s.icount := by simp [ioIn16]
@[simp] theorem ioIn16_cycles (p : Word) (s : State) : (ioIn16 p s).2.cycles = s.cycles := by simp [ioIn16]
@[simp] theorem ioIn16_signal (p : Word) (s : State) : (ioIn16 p s).2.signal = s.signal := by simp [ioIn16]
@[simp] theorem ioIn16_dec (p : Word) (s : State) : (ioIn16 p s).2.dec = s.dec := by simp [ioIn16]
@[simp] theorem ioIn16_mem (p : Word) (s : State) : (ioIn16 p s).2.mem = s.mem := by simp [ioIn16]
@[simp] theorem ioIn16_memTable (p : Word) (s : State) : (ioIn16 p s).2.memTable = s.memTable := by simp [ioIn16]
@[simp] theorem ioIn16_ioTable (p : Word) (s : State) : (ioIn16 p s).2.ioTable = s.ioTable := by simp [ioIn16]
@[simp] theorem ioIn16_peripherals (p : Word) (s : State) : (ioIn16 p s).2.peripherals = s.peripherals := by simp [ioIn16]
@[simp] theorem ioIn16_softInt (p : Word) (s : State) : (ioIn16 p s).2.softInt = s.softInt := by simp [ioIn16]
@[simp] theorem ioIn16_pic (p : Word) (s : State) : (ioIn16 p s).2.pic = s.pic := by simp [ioIn16]
@[simp] theorem ioIn16_cpuMode (p : Word) (s : State) : (ioIn16 p s).2.cpuMode = s.cpuMode := by simp [ioIn16]
@[simp] theorem ioIn16_wordWrap (p : Word) (s : State) : (ioIn16 p s).2.wordWrap = s.wordWrap := by simp [ioIn16]
@[simp] theorem ioIn16_reg16 (p : Word) (s : State) (q : Reg16) : reg16 q ((ioIn16 p s).2) = reg16 q s := reg16_congr (by simp) q
@[simp] theorem ioIn16_reg8 (p : Word) (s : State) (q : Reg8) : reg8 q ((ioIn16 p s).2) = reg8 q s := reg8_congr (by simp) q
@[simp] theorem ioIn16_sreg (p : Word) (s : State) (q : Sreg) : sreg q ((ioIn16 p s).2) = sreg q s := sreg_congr (by simp) q
@[simp] theorem ioIn16_flag (p : Word) (s : State) (q : Flag) : flag q ((ioIn16 p s).2) = flag q s := flag_congr (by simp) q
@[simp] theorem ioIn16_kindAt (p : Word) (s : State) (a : Addr) : kindAt ((ioIn16 p s).2) a = kindAt s a := kindAt_congr (by simp) (by simp) a

/-! ### ioOut8 -/

@[simp] theorem ioOut8_gpr (p : Word) (v : Byte) (s : State) : (ioOut8 p v s).gpr = s.gpr := by unfold ioOut8; split <;> rfl
@[simp] theorem ioOut8_seg (p : Word) (v : Byte) (s : State) : (ioOut8 p v s).seg = s.seg := by unfold ioOut8; split <;> rfl
@[simp] theorem ioOut8_ip (p : Word) (v : Byte) (s : State) : (ioOut8 p v s).ip = s.ip := by unfold ioOut8; split <;> rfl
@[simp] theorem ioOut8_flags (p : Word) (v : Byte) (s : State) : (ioOut8 p v s).flags = s.flags := by unfold ioOut8; split <;> rfl
@[simp] theorem ioOut8_trap (p : Word) (v : Byte) (s : State) : (ioOut8 p v s).trap = s.trap := by unfold ioOut8; split <;> rfl
@[simp] theorem ioOut8_debugBreak (p : Word) (v : Byte) (s : State) : (ioOut8 p v s).debugBreak = s.debugBreak := by unfold ioOut8; split <;> rfl
@[simp] theorem ioOut8_icount (p : Word) (v : Byte) (s : State) : (ioOut8 p v s).icount = s.icount := by unfold ioOut8; split <;> rfl
@[simp] theorem ioOut8_cycles (p : Word) (v : Byte) (s : State) : (ioOut8 p v s).cycles = s.cycles := by unfold ioOut8; split <;> rfl
@[simp] theorem ioOut8_signal (p : Word) (v : Byte) (s : State) : (ioOut8 p v s).signal = s.signal := by unfold ioOut8; split <;> rfl
@[simp] theorem ioOut8_dec (p : Word) (v : Byte) (s : State) : (ioOut8 p v s).dec = s.dec := by unfold ioOut8; split <;> rfl
@[simp] theorem ioOut8_mem (p : Word) (v : Byte) (s : State) : (ioOut8 p v s).mem = s.mem := by unfold ioOut8; split <;> rfl
@[simp] theorem ioOut8_memTable (p : Word) (v : Byte) (s : State) : (ioOut8 p v s).memTable = s.memTable := by unfold ioOut8; split <;> rfl
@[simp] theorem ioOut8_ioTable (p : Word) (v : Byte) (s : State) : (ioOut8 p v s).ioTable = s.ioTable := by unfold ioOut8; split <;> rfl
@[simp] theorem ioOut8_peripherals (p : Word) (v : Byte) (s : State) : (ioOut8 p v s).peripherals = s.peripherals := by unfold ioOut8; split <;> rfl
@[simp] theorem ioOut8_softInt (p : Word) (v : Byte) (s : State) : (ioOut8 p v s).softInt = s.softInt := by unfold ioOut8; split <;> rfl
@[simp] theorem ioOut8_pic (p : Word) (v : Byte) (s : State) : (ioOut8 p v s).pic = s.pic := by unfold ioOut8; split <;> rfl
@[simp] theorem ioOut8_cpuMode (p : Word) (v : Byte) (s : State) : (ioOut8 p v s).cpuMode = s.cpuMode := by unfold ioOut8; split <;> rfl
@[simp] theorem ioOut8_wordWrap (p : Word) (v : Byte) (s : State) : (ioOut8 p v s).wordWrap = s.wordWrap := by unfold ioOut8; split <;> rfl
@[simp] theorem ioOut8_draws (p : Word) (v : Byte) (s : State) : (ioOut8 p v s).draws = s.draws := by unfold ioOut8; split <;> rfl
@[simp] theorem ioOut8_reg16 (p : Word) (v : Byte) (s : State) (q : Reg16) : reg16 q (ioOut8 p v s) = reg16 q s := reg16_congr (by simp) q
@[simp] theorem ioOut8_reg8 (p : Word) (v : Byte) (s : State) (q : Reg8) : reg8 q (ioOut8 p v s) = reg8 q s := reg8_congr (by simp) q
@[simp] theorem ioOut8_sreg (p : Word) (v : Byte) (s : State) (q : Sreg) : sreg q (ioOut8 p v s) = sreg q s := sreg_congr (by simp) q
@[simp] theorem ioOut8_flag (p : Word) (v : Byte) (s : State) (q : Flag) : flag q (ioOut8 p v s) = flag q s := flag_congr (by simp) q
@[simp] theorem ioOut8_kindAt (p : Word) (v : Byte) (s : State) (a : Addr) : kindAt (ioOut8 p v s) a = kindAt s a := kindAt_congr (by simp) (by simp) a

/-! ### ioOut16 -/

@[simp] theorem ioOut16_gpr (p : Word) (v : Word) (s : State) : (ioOut16 p v s).gpr = s.gpr := by simp [ioOut16]
@[simp] theorem ioOut16_seg (p : Word) (v : Word) (s : State) : (ioOut16 p v s).seg = s.seg := by simp [ioOut16]
@[simp] theorem ioOut16_ip (p : Word) (v : Word) (s : State) : (ioOut16 p v s).ip = s.ip := by simp [ioOut16]
@[simp] theorem ioOut16_flags (p : Word) (v : Word) (s : State) : (ioOut16 p v s).flags = s.flags := by simp [ioOut16]
@[simp] theorem ioOut16_trap (p : Word) (v : Word) (s : State) : (ioOut16 p v s).trap = s.trap := by simp [ioOut16]
@[simp] theorem ioOut16_debugBreak (p : Word) (v : Word) (s : State) : (ioOut16 p v s).debugBreak = s.debugBreak := by simp [ioOut16]
@[simp] theorem ioOut16_icount (p : Word) (v : Word) (s : State) : (ioOut16 p v s).icount = s.icount := by simp [ioOut16]
@[simp] theorem ioOut16_cycles (p : Word) (v : Word) (s : State) : (ioOut16 p v s).cycles = s.cycles := by simp [ioOut16]
@[simp] theorem ioOut16_signal (p : Word) (v : Word) (s : State) : (ioOut16 p v s).signal = s.signal := by simp [ioOut16]
@[simp] theorem ioOut16_dec (p : Word) (v : Word) (s : State) : (ioOut16 p v s).dec = s.dec := by simp [ioOut16]
@[simp] theorem ioOut16_mem (p : Word) (v : Word) (s : State) : (ioOut16 p v s).mem = s.mem := by simp [ioOut16]
@[simp] theorem ioOut16_memTable (p : Word) (v : Word) (s : State) : (ioOut16 p v s).memTable = s.memTable := by simp [ioOut16]
@[simp] theorem ioOut16_ioTable (p : Word) (v : Word) (s : State) : (ioOut16 p v s).ioTable = s.ioTable := by simp [ioOut16]
@[simp] theorem ioOut16_peripherals (p : Word) (v : Word) (s : State) : (ioOut16 p v s).peripherals = s.peripherals := by simp [ioOut16]
@[simp] theorem ioOut16_softInt (p : Word) (v : Word) (s : State) : (ioOut16 p v s).softInt = s.softInt := by simp [ioOut16]
@[simp] theorem ioOut16_pic (p : Word) (v : Word) (s : State) : (ioOut16 p v s).pic = s.pic := by simp [ioOut16]
@[simp] theorem ioOut16_cpuMode (p : Word) (v : Word) (s : State) : (ioOut16 p v s).cpuMode = s.cpuMode := by simp [ioOut16]
@[simp] theorem ioOut16_wordWrap (p : Word) (v : Word) (s : State) : (ioOut16 p v s).wordWrap = s.wordWrap := by simp [ioOut16]
@[simp] theorem ioOut16_draws (p : Word) (v : Word) (s : State) : (ioOut16 p v s).draws = s.draws := by simp [ioOut16]
@[simp] theorem ioOut16_reg16 (p : Word) (v : Word) (s : State) (q : Reg16) : reg16 q (ioOut16 p v s) = reg16 q s := reg16_congr (by simp) q
@[simp] theorem ioOut16_reg8 (p : Word) (v : Word) (s : State) (q : Reg8) : reg8 q (ioOut16 p v s) = reg8 q s := reg8_congr (by simp) q
@[simp] theorem ioOut16_sreg (p : Word) (v : Word) (s : State) (q : Sreg) : sreg q (ioOut16 p v s) = sreg q s := sreg_congr (by simp) q
@[simp] theorem ioOut16_flag (p : Word) (v : Word) (s : State) (q : Flag) : flag q (ioOut16 p v s) = flag q s := flag_congr (by simp) q
@[simp] theorem ioOut16_kindAt (p : Word) (v : Word) (s : State) (a : Addr) : kindAt (ioOut16 p v s) a = kindAt s a := kindAt_congr (by simp) (by simp) a

/-! ### push16 -/

@[simp] theorem push16_gpr (v : Word) (s : State) : (push16 v s).gpr = s.gpr.set .sp (s.gpr.sp - 2#16) := by simp [push16]
@[simp] theorem push16_seg (v : Word) (s : State) : (push16 v s).seg = s.seg := by simp [push16]
@[simp] theorem push16_ip (v : Word) (s : State) : (push16 v s).ip = s.ip := by simp [push16]
@[simp] theorem push16_flags (v : Word) (s : State) : (push16 v s).flags = s.flags := by simp [push16]
@[simp] theorem push16_trap (v : Word) (s : State) : (push16 v s).trap = s.trap := by simp [push16]
@[simp] theorem push16_debugBreak (v : Word) (s : State) : (push16 v s).debugBreak = s.debugBreak := by simp [push16]
@[simp] theorem push16_icount (v : Word) (s : State) : (push16 v s).icount = s.icount := by simp [push16]
@[simp] theorem push16_cycles (v : Word) (s : State) : (push16 v s).cycles = s.cycles := by simp [push16]
@[simp] theorem push16_signal (v : Word) (s : State) : (push16 v s).signal = s.signal := by simp [push16]
@[simp] theorem push16_dec (v : Word) (s : State) : (push16 v s).dec = s.dec := by simp [push16]
@[simp] theorem push16_memTable (v : Word) (s : State) : (push16 v s).memTable = s.memTable := by simp [push16]
@[simp] theorem push16_ioTable (v : Word) (s : State) : (push16 v s).ioTable = s.ioTable := by simp [push16]
@[simp] theorem push16_peripherals (v : Word) (s : State) : (push16 v s).peripherals = s.peripherals := by simp [push16]
@[simp] theorem push16_softInt (v : Word) (s : State) : (push16 v s).softInt = s.softInt := by simp [push16]
@[simp] theorem push16_pic (v : Word) (s : State) : (push16 v s).pic = s.pic := by simp [push16]
@[simp] theorem push16_cpuMode (v : Word) (s : State) : (push16 v s).cpuMode = s.cpuMode := by simp [push16]
@[simp] theorem push16_wordWrap (v : Word) (s : State) : (push16 v s).wordWrap = s.wordWrap := by simp [push16]
@[simp] theorem push16_draws (v : Word) (s : State) : (push16 v s).draws = s.draws := by simp [push16]
@[simp] theorem push16_sreg (v : Word) (s : State) (q : Sreg) : sreg q (push16 v s) = sreg q s := sreg_congr (by simp) q
@[simp] theorem push16_flag (v : Word) (s : State) (q : Flag) : flag q (push16 v s) = flag q s := flag_congr (by simp) q
@[simp] theorem push16_kindAt (v : Word) (s : State) (a : Addr) : kindAt (push16 v s) a = kindAt s a := kindAt_congr (by simp) (by simp) a

/-! ### pop16 -/

@[simp] theorem pop16_gpr (s : State) : (pop16 s).2.gpr = s.gpr.set .sp (s.gpr.sp + 2#16) := by simp [pop16]
@[simp] theorem pop16_seg (s : State) : (pop16 s).2.seg = s.seg := by simp [pop16]
@[simp] theorem pop16_ip (s : State) : (pop16 s).2.ip = s.ip := by simp [pop16]
@[simp] theorem pop16_flags (s : State) : (pop16 s).2.flags = s.flags := by simp [pop16]
@[simp] theorem pop16_trap (s : State) : (pop16 s).2.trap = s.trap := by simp [pop16]
@[simp] theorem pop16_debugBreak (s : State) : (pop16 s).2.debugBreak = s.debugBreak := by simp [pop16]
@[simp] theorem pop16_icount (s : State) : (pop16 s).2.icount = s.icount := by simp [pop16]
@[simp] theorem pop16_cycles (s : State) : (pop16 s).2.cycles = s.cycles := by simp [pop16]
@[simp] theorem pop16_signal (s : State) : (pop16 s).2.signal = s.signal := by simp [pop16]
@[simp] theorem pop16_dec (s : State) : (pop16 s).2.dec = s.dec := by simp [pop16]
@[simp] theorem pop16_mem (s : State) : (pop16 s).2.mem = s.mem := by simp [pop16]
@[simp] theorem pop16_memTable (s : State) : (pop16 s).2.memTable = s.memTable := by simp [pop16]
@[simp] theorem pop16_ioTable (s : State) : (pop16 s).2.ioTable = s.ioTable := by simp [pop16]
@[simp] theorem pop16_peripherals (s : State) : (pop16 s).2.peripherals = s.peripherals := by simp [pop16]
@[simp] theorem pop16_softInt (s : State) : (pop16 s).2.softInt = s.softInt := by simp [pop16]
@[simp] theorem pop16_pic (s : State) : (pop16 s).2.pic = s.pic := by simp [pop16]
@[simp] theorem pop16_cpuMode (s : State) : (pop16 s).2.cpuMode = s.cpuMode := by simp [pop16]
@[simp] theorem pop16_wordWrap (s : State) : (pop16 s).2.wordWrap = s.wordWrap := by simp [pop16]
@[simp] theorem pop16_sreg (s : State) (q : Sreg) : sreg q ((pop16 s).2) = sreg q s := sreg_congr (by simp) q
@[simp] theorem pop16_flag (s : State) (q : Flag) : flag q ((pop16 s).2) = flag q s := flag_congr (by simp) q
@[simp] theorem pop16_kindAt (s : State) (a : Addr) : kindAt ((pop16 s).2) a = kindAt s a := kindAt_congr (by simp) (by simp) a

/-! ### readLoc8 -/

@[simp] theorem readLoc8_gpr (l : Loc8) (s : State) : (readLoc8 l s).2.gpr = s.gpr := by cases l <;> simp [readLoc8]
@[simp] theorem readLoc8_seg (l : Loc8) (s : State) : (readLoc8 l s).2.seg = s.seg := by cases l <;> simp [readLoc8]
@[simp] theorem readLoc8_ip (l : Loc8) (s : State) : (readLoc8 l s).2.ip = s.ip := by cases l <;> simp [readLoc8]
@[simp] theorem readLoc8_flags (l : Loc8) (s : State) : (readLoc8 l s).2.flags = s.flags := by cases l <;> simp [readLoc8]
@[simp] theorem readLoc8_trap (l : Loc8) (s : State) : (readLoc8 l s).2.trap = s.trap := by cases l <;> simp [readLoc8]
@[simp] theorem readLoc8_debugBreak (l : Loc8) (s : State) : (readLoc8 l s).2.debugBreak = s.debugBreak := by cases l <;> simp [readLoc8]
@[simp] theorem readLoc8_icount (l : Loc8) (s : State) : (readLoc8 l s).2.icount = s.icount := by cases l <;> simp [readLoc8]
@[simp] theorem readLoc8_cycles (l : Loc8) (s : State) : (readLoc8 l s).2.cycles = s.cycles := by cases l <;> simp [readLoc8]
@[simp] theorem readLoc8_signal (l : Loc8) (s : State) : (readLoc8 l s).2.signal = s.signal := by cases l <;> simp [readLoc8]
@[simp] theorem readLoc8_dec (l : Loc8) (s : State) : (readLoc8 l s).2.dec = s.dec := by cases l <;> simp [readLoc8]
@[simp] theorem readLoc8_mem (l : Loc8) (s : State) : (readLoc8 l s).2.mem = s.mem := by cases l <;> simp [readLoc8]
@[simp] theorem readLoc8_memTable (l : Loc8) (s : State) : (readLoc8 l s).2.memTable = s.memTable := by cases l <;> simp [readLoc8]
@[simp] theorem readLoc8_ioTable (l : Loc8) (s : State) : (readLoc8 l s).2.ioTable = s.ioTable := by cases l <;> simp [readLoc8]
@[simp] theorem readLoc8_peripherals (l : Loc8) (s : State) : (readLoc8 l s).2.peripherals = s.peripherals := by cases l <;> simp [readLoc8]
@[simp] theorem readLoc8_softInt (l : Loc8) (s : State) : (readLoc8 l s).2.softInt = s.softInt := by cases l <;> simp [readLoc8]
@[simp] theorem readLoc8_pic (l : Loc8) (s : State) : (readLoc8 l s).2.pic = s.pic := by cases l <;> simp [readLoc8]
@[simp] theorem readLoc8_cpuMode (l : Loc8) (s : State) : (readLoc8 l s).2.cpuMode = s.cpuMode := by cases l <;> simp [readLoc8]
@[simp] theorem readLoc8_wordWrap (l : Loc8) (s : State) : (readLoc8 l s).2.wordWrap = s.wordWrap := by cases l <;> simp [readLoc8]
@[simp] theorem readLoc8_reg16 (l : Loc8) (s : State) (q : Reg16) : reg16 q ((readLoc8 l s).2) = reg16 q s := reg16_congr (by simp) q
@[simp] theorem readLoc8_reg8 (l : Loc8) (s : State) (q : Reg8) : reg8 q ((readLoc8 l s).2) = reg8 q s := reg8_congr (by simp) q
@[simp] theorem readLoc8_sreg (l : Loc8) (s : State) (q : Sreg) : sreg q ((readLoc8 l s).2) = sreg q s := sreg_congr (by simp) q
@[simp] theorem readLoc8_flag (l : Loc8) (s : State) (q : Flag) : flag q ((readLoc8 l s).2) = flag q s := flag_congr (by simp) q
@[simp] theorem readLoc8_kindAt (l : Loc8) (s : State) (a : Addr) : kindAt ((readLoc8 l s).2) a = kindAt s a := kindAt_congr (by simp) (by simp) a

/-! ### readLoc16 -/

@[simp] theorem readLoc16_gpr (l : Loc16) (s : State) : (readLoc16 l s).2.gpr = s.gpr := by cases l <;> simp [readLoc16]
@[simp] theorem readLoc16_seg (l : Loc16) (s : State) : (readLoc16 l s).2.seg = s.seg := by cases l <;> simp [readLoc16]
@[simp] theorem readLoc16_ip (l : Loc16) (s : State) : (readLoc16 l s).2.ip = s.ip := by cases l <;> simp [readLoc16]
@[simp] theorem readLoc16_flags (l : Loc16) (s : State) : (readLoc16 l s).2.flags = s.flags := by cases l <;> simp [readLoc16]
@[simp] theorem readLoc16_trap (l : Loc16) (s : State) : (readLoc16 l s).2.trap = s.trap := by cases l <;> simp [readLoc16]
@[simp] theorem readLoc16_debugBreak (l : Loc16) (s : State) : (readLoc16 l s).2.debugBreak = s.debugBreak := by cases l <;> simp [readLoc16]
@[simp] theorem readLoc16_icount (l : Loc16) (s : State) : (readLoc16 l s).2.icount = s.icount := by cases l <;> simp [readLoc16]
@[simp] theorem readLoc16_cycles (l : Loc16) (s : State) : (readLoc16 l s).2.cycles = s.cycles := by cases l <;> simp [readLoc16]
@[simp] theorem readLoc16_signal (l : Loc16) (s : State) : (readLoc16 l s).2.signal = s.signal := by cases l <;> simp [readLoc16]
@[simp] theorem readLoc16_dec (l : Loc16) (s : State) : (readLoc16 l s).2.dec = s.dec := by cases l <;> simp [readLoc16]
@[simp] theorem readLoc16_mem (l : Loc16) (s : State) : (readLoc16 l s).2.mem = s.mem := by cases l <;> simp [readLoc16]
@[simp] theorem readLoc16_memTable (l : Loc16) (s : State) : (readLoc16 l s).2.memTable = s.memTable := by cases l <;> simp [readLoc16]
@[simp] theorem readLoc16_ioTable (l : Loc16) (s : State) : (readLoc16 l s).2.ioTable = s.ioTable := by cases l <;> simp [readLoc16]
@[simp] theorem readLoc16_peripherals (l : Loc16) (s : State) : (readLoc16 l s).2.peripherals = s.peripherals := by cases l <;> simp [readLoc16]
@[simp] theorem readLoc16_softInt (l : Loc16) (s : State) : (readLoc16 l s).2.softInt = s.softInt := by cases l <;> simp [readLoc16]
@[simp] theorem readLoc16_pic (l : Loc16) (s : State) : (readLoc16 l s).2.pic = s.pic := by cases l <;> simp [readLoc16]
@[simp] theorem readLoc16_cpuMode (l : Loc16) (s : State) : (readLoc16 l s).2.cpuMode = s.cpuMode := by cases l <;> simp [readLoc16]
@[simp] theorem readLoc16_wordWrap (l : Loc16) (s : State) : (readLoc16 l s).2.wordWrap = s.wordWrap := by cases l <;> simp [readLoc16]
@[simp] theorem readLoc16_reg16 (l : Loc16) (s : State) (q : Reg16) : reg16 q ((readLoc16 l s).2) = reg16 q s := reg16_congr (by simp) q
@[simp] theorem readLoc16_reg8 (l : Loc16) (s : State) (q : Reg8) : reg8 q ((readLoc16 l s).2) = reg8 q s := reg8_congr (by simp) q
@[simp] theorem readLoc16_sreg (l : Loc16) (s : State) (q : Sreg) : sreg q ((readLoc16 l s).2) = sreg q s := sreg_congr (by simp) q
@[simp] theorem readLoc16_flag (l : Loc16) (s : State) (q : Flag) : flag q ((readLoc16 l s).2) = flag q s := flag_congr (by simp) q
@[simp] theorem readLoc16_kindAt (l : Loc16) (s : State) (a : Addr) : kindAt ((readLoc16 l s).2) a = kindAt s a := kindAt_congr (by simp) (by simp) a

/-! ### readFar -/

@[simp] theorem readFar_gpr (m : MemOp) (s : State) : (readFar m s).2.gpr = s.gpr := by simp [readFar]
@[simp] theorem readFar_seg (m : MemOp) (s : State) : (readFar m s).2.seg = s.seg := by simp [readFar]
@[simp] theorem readFar_ip (m : MemOp) (s : State) : (readFar m s).2.ip = s.ip := by simp [readFar]
@[simp] theorem readFar_flags (m : MemOp) (s : State) : (readFar m s).2.flags = s.flags := by simp [readFar]
@[simp] theorem readFar_trap (m : MemOp) (s : State) : (readFar m s).2.trap = s.trap := by simp [readFar]
@[simp] theorem readFar_debugBreak (m : MemOp) (s : State) : (readFar m s).2.debugBreak = s.debugBreak := by simp [readFar]
@[simp] theorem readFar_icount (m : MemOp) (s : State) : (readFar m s).2.icount = s.icount := by simp [readFar]
@[simp] theorem readFar_cycles (m : MemOp) (s : State) : (readFar m s).2.cycles = s.cycles := by simp [readFar]
@[simp] theorem readFar_signal (m : MemOp) (s : State) : (readFar m s).2.signal = s.signal := by simp [readFar]
@[simp] theorem readFar_dec (m : MemOp) (s : State) : (readFar m s).2.dec = s.dec := by simp [readFar]
@[simp] theorem readFar_mem (m : MemOp) (s : State) : (readFar m s).2.mem = s.mem := by simp [readFar]
@[simp] theorem readFar_memTable (m : MemOp) (s : State) : (readFar m s).2.memTable = s.memTable := by simp [readFar]
@[simp] theorem readFar_ioTable (m : MemOp) (s : State) : (readFar m s).2.ioTable = s.ioTable := by simp [readFar]
@[simp] theorem readFar_peripherals (m : MemOp) (s : State) : (readFar m s).2.peripherals = s.peripherals := by simp [readFar]
@[simp] theorem readFar_softInt (m : MemOp) (s : State) : (readFar m s).2.softInt = s.softInt := by simp [readFar]
@[simp] theorem readFar_pic (m : MemOp) (s : State) : (readFar m s).2.pic = s.pic := by simp [readFar]
@[simp] theorem readFar_cpuMode (m : MemOp) (s : State) : (readFar m s).2.cpuMode = s.cpuMode := by simp [readFar]
@[simp] theorem readFar_wordWrap (m : MemOp) (s : State) : (readFar m s).2.wordWrap = s.wordWrap := by simp [readFar]
@[simp] theorem readFar_reg16 (m : MemOp) (s : State) (q : Reg16) : reg16 q ((readFar m s).2) = reg16 q s := reg16_congr (by simp) q
@[simp] theorem readFar_reg8 (m : MemOp) (s : State) (q : Reg8) : reg8 q ((readFar m s).2) = reg8 q s := reg8_congr (by simp) q
@[simp] theorem readFar_sreg (m : MemOp) (s : State) (q : Sreg) : sreg q ((readFar m s).2) = sreg q s := sreg_congr (by simp) q
@[simp] theorem readFar_flag (m : MemOp) (s : State) (q : Flag) : flag q ((readFar m s).2) = flag q s := flag_congr (by simp) q
@[simp] theorem readFar_kindAt (m : MemOp) (s : State) (a : Addr) : kindAt ((readFar m s).2) a = kindAt s a := kindAt_congr (by simp) (by simp) a

/-! ### writeLoc8 -/

@[simp] theorem writeLoc8_seg (l : Loc8) (v : Byte) (s : State) : (writeLoc8 l v s).seg = s.seg := by cases l <;> simp [writeLoc8]
@[simp] theorem writeLoc8_ip (l : Loc8) (v : Byte) (s : State) : (writeLoc8 l v s).ip = s.ip := by cases l <;> simp [writeLoc8]
@[simp] theorem writeLoc8_flags (l : Loc8) (v : Byte) (s : State) : (writeLoc8 l v s).flags = s.flags := by cases l <;> simp [writeLoc8]
@[simp] theorem writeLoc8_trap (l : Loc8) (v : Byte) (s : State) : (writeLoc8 l v s).trap = s.trap := by cases l <;> simp [writeLoc8]
@[simp] theorem writeLoc8_debugBreak (l : Loc8) (v : Byte) (s : State) : (writeLoc8 l v s).debugBreak = s.debugBreak := by cases l <;> simp [writeLoc8]
@[simp] theorem writeLoc8_icount (l : Loc8) (v : Byte) (s : State) : (writeLoc8 l v s).icount = s.icount := by cases l <;> simp [writeLoc8]
@[simp] theorem writeLoc8_cycles (l : Loc8) (v : Byte) (s : State) : (writeLoc8 l v s).cycles = s.cycles := by cases l <;> simp [writeLoc8]
@[simp] theorem writeLoc8_signal (l : Loc8) (v : Byte) (s : State) : (writeLoc8 l v s).signal = s.signal := by cases l <;> simp [writeLoc8]
@[simp] theorem writeLoc8_dec (l : Loc8) (v : Byte) (s : State) : (writeLoc8 l v s).dec = s.dec := by cases l <;> simp [writeLoc8]
@[simp] theorem writeLoc8_memTable (l : Loc8) (v : Byte) (s : State) : (writeLoc8 l v s).memTable = s.memTable := by cases l <;> simp [writeLoc8]
@[simp] theorem writeLoc8_ioTable (l : Loc8) (v : Byte) (s : State) : (writeLoc8 l v s).ioTable = s.ioTable := by cases l <;> simp [writeLoc8]
@[simp] theorem writeLoc8_peripherals (l : Loc8) (v : Byte) (s : State) : (writeLoc8 l v s).peripherals = s.peripherals := by cases l <;> simp [writeLoc8]
@[simp] theorem writeLoc8_softInt (l : Loc8) (v : Byte) (s : State) : (writeLoc8 l v s).softInt = s.softInt := by cases l <;> simp [writeLoc8]
@[simp] theorem writeLoc8_pic (l : Loc8) (v : Byte) (s : State) : (writeLoc8 l v s).pic = s.pic := by cases l <;> simp [writeLoc8]
@[simp] theorem writeLoc8_cpuMode (l : Loc8) (v : Byte) (s : State) : (writeLoc8 l v s).cpuMode = s.cpuMode := by cases l <;> simp [writeLoc8]
@[simp] theorem writeLoc8_wordWrap (l : Loc8) (v : Byte) (s : State) : (writeLoc8 l v s).wordWrap = s.wordWrap := by cases l <;> simp [writeLoc8]
@[simp] theorem writeLoc8_draws (l : Loc8) (v : Byte) (s : State) : (writeLoc8 l v s).draws = s.draws := by cases l <;> simp [writeLoc8]
@[simp] theorem writeLoc8_sreg (l : Loc8) (v : Byte) (s : State) (q : Sreg) : sreg q (writeLoc8 l v s) = sreg q s := sreg_congr (by simp) q
@[simp] theorem writeLoc8_flag (l : Loc8) (v : Byte) (s : State) (q : Flag) : flag q (writeLoc8 l v s) = flag q s := flag_congr (by simp) q
@[simp] theorem writeLoc8_kindAt (l : Loc8) (v : Byte) (s : State) (a : Addr) : kindAt (writeLoc8 l v s) a = kindAt s a := kindAt_congr (by simp) (by simp) a

/-! ### writeLoc16 -/

@[simp] theorem writeLoc16_ip (l : Loc16) (v : Word) (s : State) : (writeLoc16 l v s).ip = s.ip := by cases l <;> simp [writeLoc16]
@[simp] theorem writeLoc16_flags (l : Loc16) (v : Word) (s : State) : (writeLoc16 l v s).flags = s.flags := by cases l <;> simp [writeLoc16]
@[simp] theorem writeLoc16_trap (l : Loc16) (v : Word) (s : State) : (writeLoc16 l v s).trap = s.trap := by cases l <;> simp [writeLoc16]
@[simp] theorem writeLoc16_debugBreak (l : Loc16) (v : Word) (s : State) : (writeLoc16 l v s).debugBreak = s.debugBreak := by cases l <;> simp [writeLoc16]
@[simp] theorem writeLoc16_icount (l : Loc16) (v : Word) (s : State) : (writeLoc16 l v s).icount = s.icount := by cases l <;> simp [writeLoc16]
@[simp] theorem writeLoc16_cycles (l : Loc16) (v : Word) (s : State) : (writeLoc16 l v s).cycles = s.cycles := by cases l <;> simp [writeLoc16]
@[simp] theorem writeLoc16_signal (l : Loc16) (v : Word) (s : State) : (writeLoc16 l v s).signal = s.signal := by cases l <;> simp [writeLoc16]
@[simp] theorem writeLoc16_dec (l : Loc16) (v : Word) (s : State) : (writeLoc16 l v s).dec = s.dec := by cases l <;> simp [writeLoc16]
@[simp] theorem writeLoc16_memTable (l : Loc16) (v : Word) (s : State) : (writeLoc16 l v s).memTable = s.memTable := by cases l <;> simp [writeLoc16]
@[simp] theorem writeLoc16_ioTable (l : Loc16) (v : Word) (s : State) : (writeLoc16 l v s).ioTable = s.ioTable := by cases l <;> simp [writeLoc16]
@[simp] theorem writeLoc16_peripherals (l : Loc16) (v : Word) (s : State) : (writeLoc16 l v s).peripherals = s.peripherals := by cases l <;> simp [writeLoc16]
@[simp] theorem writeLoc16_softInt (l : Loc16) (v : Word) (s : State) : (writeLoc16 l v s).softInt = s.softInt := by cases l <;> simp [writeLoc16]
@[simp] theorem writeLoc16_pic (l : Loc16) (v : Word) (s : State) : (writeLoc16 l v s).pic = s.pic := by cases l <;> simp [writeLoc16]
@[simp] theorem writeLoc16_cpuMode (l : Loc16) (v : Word) (s : State) : (writeLoc16 l v s).cpuMode = s.cpuMode := by cases l <;> simp [writeLoc16]
@[simp] theorem writeLoc16_wordWrap (l : Loc16) (v : Word) (s : State) : (writeLoc16 l v s).wordWrap = s.wordWrap := by cases l <;> simp [writeLoc16]
@[simp] theorem writeLoc16_draws (l : Loc16) (v : Word) (s : State) : (writeLoc16 l v s).draws = s.draws := by cases l <;> simp [writeLoc16]
@[simp] theorem writeLoc16_flag (l : Loc16) (v : Word) (s : State) (q : Flag) : flag q (writeLoc16 l v s) = flag q s := flag_congr (by simp) q
@[simp] theorem writeLoc16_kindAt (l : Loc16) (v : Word) (s : State) (a : Addr) : kindAt (writeLoc16 l v s) a = kindAt s a := kindAt_congr (by simp) (by simp) a

/-! ### vectorThrough -/

@[simp] theorem vectorThrough_trap (n : Byte) (s : State) : (vectorThrough n s).trap = s.trap := by simp [vectorThrough]
@[simp] theorem vectorThrough_debugBreak (n : Byte) (s : State) : (vectorThrough n s).debugBreak = s.debugBreak := by simp [vectorThrough]
@[simp] theorem vectorThrough_icount (n : Byte) (s : State) : (vectorThrough n s).icount = s.icount := by simp [vectorThrough]
@[simp] theorem vectorThrough_cycles (n : Byte) (s : State) : (vectorThrough n s).cycles = s.cycles := by simp [vectorThrough]
@[simp] theorem vectorThrough_signal (n : Byte) (s : State) : (vectorThrough n s).signal = s.signal := by simp [vectorThrough]
@[simp] theorem vectorThrough_dec (n : Byte) (s : State) : (vectorThrough n s).dec = s.dec := by simp [vectorThrough]
@[simp] theorem vectorThrough_memTable (n : Byte) (s : State) : (vectorThrough n s).memTable = s.memTable := by simp [vectorThrough]
@[simp] theorem vectorThrough_ioTable (n : Byte) (s : State) : (vectorThrough n s).ioTable = s.ioTable := by simp [vectorThrough]
@[simp] theorem vectorThrough_peripherals (n : Byte) (s : State) : (vectorThrough n s).peripherals = s.peripherals := by simp [vectorThrough]
@[simp] theorem vectorThrough_softInt (n : Byte) (s : State) : (vectorThrough n s).softInt = s.softInt := by simp [vectorThrough]
@[simp] theorem vectorThrough_pic (n : Byte) (s : State) : (vectorThrough n s).pic = s.pic := by simp [vectorThrough]
@[simp] theorem vectorThrough_cpuMode (n : Byte) (s : State) : (vectorThrough n s).cpuMode = s.cpuMode := by simp [vectorThrough]
@[simp] theorem vectorThrough_wordWrap (n : Byte) (s : State) : (vectorThrough n s).wordWrap = s.wordWrap := by simp [vectorThrough]
@[simp] theorem vectorThrough_kindAt (n : Byte) (s : State) (a : Addr) : kindAt (vectorThrough n s) a = kindAt s a := kindAt_congr (by simp) (by simp) a

end Sys2Proof.Machine
end

