-- ==== Sys2Proof/Laws/Memory.lean ====
section
/-! SUPPORT. The laws of the memory contents: a read after a write, the canonical form, and what one byte or word store of
the bus does to every byte. -/

namespace Sys2Proof.Machine

/-! ### The list of cells -/

theorem Memory.read_write_other (m : Memory) {a b : Nat} (v : Byte) (h : b ≠ a) :
    (m.write a v).read b = m.read b := by
  induction m with
  | nil =>
    unfold Memory.write
    split
    · rfl
    · simp [Memory.read, h]
  | cons c m ih =>
    obtain ⟨k, w⟩ := c
    unfold Memory.write
    split
    · split
      · rfl
      · simp [Memory.read, h]
    · split
      · next hk =>
        subst hk
        split <;> simp [Memory.read, h]
      · simp only [Memory.read, ih]

theorem Memory.read_below (m : Memory) {lo a : Nat} (hw : Memory.wfFrom lo m = true) (h : a < lo) :
    m.read a = Config.launchByte := by
  induction m generalizing lo with
  | nil => rfl
  | cons c m ih =>
    obtain ⟨k, w⟩ := c
    simp only [Memory.wfFrom, Bool.and_eq_true, decide_eq_true_eq] at hw
    have hk : a ≠ k := by omega
    simp only [Memory.read, if_neg hk]
    exact ih hw.2 (by omega)

theorem Memory.read_write_same_from (m : Memory) {lo a : Nat} (v : Byte) (hw : Memory.wfFrom lo m = true) :
    (m.write a v).read a = v := by
  induction m generalizing lo with
  | nil =>
    unfold Memory.write
    split
    · next h => exact h.symm
    · simp [Memory.read]
  | cons c m ih =>
    obtain ⟨k, w⟩ := c
    have hw' := hw
    simp only [Memory.wfFrom, Bool.and_eq_true, decide_eq_true_eq] at hw'
    unfold Memory.write
    split
    · next hlt =>
      split
      · next hv =>
        have hk : a ≠ k := by omega
        simp only [Memory.read, if_neg hk]
        rw [Memory.read_below m hw'.2 (by omega), hv]
      · simp [Memory.read]
    · next hge =>
      split
      · next hk =>
        subst hk
        split
        · next hv => rw [Memory.read_below m hw'.2 (by omega), hv]
        · simp [Memory.read]
      · next hne => simp only [Memory.read, if_neg hne]; exact ih hw'.2

theorem Memory.read_write_same {m : Memory} (hw : m.wf = true) (a : Nat) (v : Byte) : (m.write a v).read a = v :=
  Memory.read_write_same_from m v hw

theorem Memory.wfFrom_mono (m : Memory) {lo lo' : Nat} (h : lo' ≤ lo) (hw : Memory.wfFrom lo m = true) :
    Memory.wfFrom lo' m = true := by
  cases m with
  | nil => rfl
  | cons c m =>
    obtain ⟨k, w⟩ := c
    simp only [Memory.wfFrom, Bool.and_eq_true, decide_eq_true_eq] at hw ⊢
    exact ⟨⟨⟨by omega, hw.1.1.2⟩, hw.1.2⟩, hw.2⟩

theorem Memory.wfFrom_write (m : Memory) {lo a : Nat} (v : Byte) (ha : a < 2 ^ 20) (hlo : lo ≤ a)
    (hw : Memory.wfFrom lo m = true) : Memory.wfFrom lo (m.write a v) = true := by
  induction m generalizing lo with
  | nil =>
    unfold Memory.write
    split
    · rfl
    · next hv => simp [Memory.wfFrom, hv, hlo]; omega
  | cons c m ih =>
    obtain ⟨k, w⟩ := c
    have hw' := hw
    simp only [Memory.wfFrom, Bool.and_eq_true, decide_eq_true_eq] at hw'
    obtain ⟨⟨⟨h1, h2⟩, h3⟩, h4⟩ := hw'
    unfold Memory.write
    split
    · next hlt =>
      split
      · exact hw
      · next hv =>
        simp only [Memory.wfFrom, Bool.and_eq_true, decide_eq_true_eq]
        exact ⟨⟨⟨hlo, ha⟩, hv⟩, ⟨⟨by omega, h2⟩, h3⟩, h4⟩
    · split
      · next hk =>
        subst hk
        split
        · exact Memory.wfFrom_mono m (by omega) h4
        · next hv =>
          simp only [Memory.wfFrom, Bool.and_eq_true, decide_eq_true_eq]
          exact ⟨⟨⟨h1, ha⟩, hv⟩, h4⟩
      · simp only [Memory.wfFrom, Bool.and_eq_true, decide_eq_true_eq]
        exact ⟨⟨⟨h1, h2⟩, h3⟩, ih (by omega) h4⟩

theorem Memory.wf_write {m : Memory} (hw : m.wf = true) (a : Addr) (v : Byte) : (m.write a.toNat v).wf = true :=
  Memory.wfFrom_write m v (by have := a.isLt; omega) (Nat.zero_le _) hw

theorem Memory.wf_nil : Memory.wf [] = true := rfl

/-! ### Every store of the bus keeps the canonical form -/

theorem busWrite8_wf {s : State} (hw : s.mem.wf = true) (a : Addr) (v : Byte) : (busWrite8 a v s).mem.wf = true := by
  unfold busWrite8
  split
  · exact hw
  · exact Memory.wf_write hw a v
  · exact hw
  · exact hw

theorem memWrite8_wf {s : State} (hw : s.mem.wf = true) (g o : Word) (v : Byte) : (memWrite8 g o v s).mem.wf = true :=
  busWrite8_wf hw _ _

theorem memWrite16_wf {s : State} (hw : s.mem.wf = true) (g o v : Word) : (memWrite16 g o v s).mem.wf = true :=
  busWrite8_wf (busWrite8_wf hw _ _) _ _

theorem push16_wf {s : State} (hw : s.mem.wf = true) (v : Word) : (push16 v s).mem.wf = true :=
  memWrite16_wf (s := decSp s) hw _ _ _

theorem writeLoc8_wf {s : State} (hw : s.mem.wf = true) (l : Loc8) (v : Byte) : (writeLoc8 l v s).mem.wf = true := by
  cases l
  · exact hw
  · exact memWrite8_wf hw _ _ _

theorem writeLoc16_wf {s : State} (hw : s.mem.wf = true) (l : Loc16) (v : Word) : (writeLoc16 l v s).mem.wf = true := by
  cases l
  · exact hw
  · exact hw
  · exact memWrite16_wf hw _ _ _

theorem placeBytes_wf (cs : Word) (bs : List Byte) (ip : Word) {m : Memory} (hw : m.wf = true) :
    (placeBytes cs bs ip m).wf = true := by
  induction bs generalizing ip m with
  | nil => exact hw
  | cons b bs ih => exact ih _ (Memory.wf_write hw _ _)

/-! ### What is stored where -/

theorem Stored.nil (s : State) : Stored [] s s := by
  intro a; simp

theorem stored_of_mem_eq {s t : State} (h : t.mem = s.mem) : Stored [] s t := by
  intro a; rw [h]; simp

theorem busWrite8_stored {s : State} (hw : s.mem.wf = true) (a : Addr) (v : Byte) :
    Stored [(a, v)] s (busWrite8 a v s) := by
  intro b
  by_cases hb : b = a
  · subst hb
    unfold busWrite8
    split <;> rename_i hk <;> simp [hk, Memory.read_write_same hw]
  · have hn : b.toNat ≠ a.toNat := fun h => hb (BitVec.eq_of_toNat_eq h)
    have hl : List.lookup b [(a, v)] = none := by
      rw [List.lookup_eq_none_iff]; intro c hc; simp only [List.mem_singleton] at hc; subst hc; simpa using hb
    rw [hl]
    unfold busWrite8
    split <;> simp [Memory.read_write_other _ _ hn]

/-- Two lists of stores one after the other: the later list comes first. -/
theorem Stored.trans {ws ws' : List (Addr × Byte)} {s t u : State} (h : Stored ws s t) (h' : Stored ws' t u)
    (hk : ∀ a, kindAt t a = kindAt s a) : Stored (ws' ++ ws) s u := by
  intro a
  rw [h' a, hk a, h a]
  by_cases hr : kindAt s a = some .ram
  · simp only [if_pos hr]
    rw [List.lookup_append]
    cases List.lookup a ws' <;> simp
  · simp only [if_neg hr]

/-- `Stored` looks at the contents and the kinds only. -/
theorem Stored.congr {ws : List (Addr × Byte)} {s t s' t' : State} (h : Stored ws s t) (hs : s'.mem = s.mem)
    (ht : t'.mem = t.mem) (hk : ∀ a, kindAt s' a = kindAt s a) : Stored ws s' t' := by
  intro a; rw [ht, hs, hk, h a]

theorem memWrite8_stored {s : State} (hw : s.mem.wf = true) (g o : Word) (v : Byte) :
    Stored [(lin g o, v)] s (memWrite8 g o v s) := busWrite8_stored hw _ _

theorem memWrite16_stored {s : State} (hw : s.mem.wf = true) (g o v : Word) :
    Stored (wordCells s.wordWrap g o v) s (memWrite16 g o v s) :=
  (busWrite8_stored hw _ _).trans (busWrite8_stored (busWrite8_wf hw _ _) _ _) (by simp)

theorem push16_stored {s : State} (hw : s.mem.wf = true) (v : Word) :
    Stored (wordCells s.wordWrap s.seg.ss (s.gpr.sp - 2#16) v) s (push16 v s) :=
  (memWrite16_stored (s := decSp s) hw s.seg.ss (s.gpr.sp - 2#16) v).congr rfl rfl (by simp)

/-- Every byte outside the stored ones reads as before. -/
theorem Stored.other {ws : List (Addr × Byte)} {s t : State} (h : Stored ws s t) {a : Addr}
    (ha : ∀ c ∈ ws, c.1 ≠ a) : t.mem.read a.toNat = s.mem.read a.toNat := by
  have hl : ws.lookup a = none := by
    rw [List.lookup_eq_none_iff]
    intro c hc
    exact bne_iff_ne.mpr fun he => ha c hc he.symm
  rw [h a, hl]
  simp

end Sys2Proof.Machine
end

