-- ==== Sys2Proof/Laws/Registers.lean ====
section
/-! SUPPORT. Read after write for the 16-bit registers, the 8-bit halves, the segment registers and the bits of FLAGS. -/

namespace Sys2Proof.Machine

/-! ### General and segment registers -/

@[simp] theorem reg16_setReg16 (q r : Reg16) (v : Word) (s : State) :
    reg16 q (setReg16 r v s) = if q = r then v else reg16 q s := by
  cases q <;> cases r <;> rfl

theorem reg16_of_set {t : State} {g : Gpr} {r : Reg16} {v : Word} (h : t.gpr = g.set r v) {s : State} (hs : s.gpr = g)
    (q : Reg16) : reg16 q t = if q = r then v else reg16 q s := by
  subst hs
  rw [reg16_congr (s := setReg16 r v s) h, reg16_setReg16]

@[simp] theorem sreg_setSreg (q r : Sreg) (v : Word) (s : State) :
    sreg q (setSreg r v s) = if q = r then v else sreg q s := by
  cases q <;> cases r <;> rfl

@[simp] theorem sreg_farTo (q : Sreg) (c v : Word) (s : State) :
    sreg q (farTo c v s) = if q = .cs then c else sreg q s := by
  cases q <;> rfl

theorem gpr_ext {g h : Gpr} (hax : g.ax = h.ax) (hcx : g.cx = h.cx) (hdx : g.dx = h.dx) (hbx : g.bx = h.bx)
    (hsp : g.sp = h.sp) (hbp : g.bp = h.bp) (hsi : g.si = h.si) (hdi : g.di = h.di) : g = h := by
  cases g; cases h; simp_all

/-- Two register files with the same eight registers are equal. -/
theorem gpr_eq_of_reg16 {s t : State} (h : ∀ r, reg16 r t = reg16 r s) : t.gpr = s.gpr :=
  gpr_ext (h .ax) (h .cx) (h .dx) (h .bx) (h .sp) (h .bp) (h .si) (h .di)

/-! ### The halves of a word -/

@[simp] theorem loByte_setLo (w : Word) (b : Byte) : loByte (setLo w b) = b := by
  apply BitVec.eq_of_getLsbD_eq; intro i hi
  simp only [loByte, setLo, BitVec.getLsbD_extractLsb', BitVec.getLsbD_append]
  simp [hi]

@[simp] theorem hiByte_setLo (w : Word) (b : Byte) : hiByte (setLo w b) = hiByte w := by
  apply BitVec.eq_of_getLsbD_eq; intro i hi
  simp only [hiByte, setLo, BitVec.getLsbD_extractLsb', BitVec.getLsbD_append]
  simp [hi]

@[simp] theorem hiByte_setHi (w : Word) (b : Byte) : hiByte (setHi w b) = b := by
  apply BitVec.eq_of_getLsbD_eq; intro i hi
  simp only [hiByte, setHi, loByte, BitVec.getLsbD_extractLsb', BitVec.getLsbD_append]
  simp [hi]

@[simp] theorem loByte_setHi (w : Word) (b : Byte) : loByte (setHi w b) = loByte w := by
  apply BitVec.eq_of_getLsbD_eq; intro i hi
  simp only [setHi, loByte, BitVec.getLsbD_extractLsb', BitVec.getLsbD_append]
  simp [hi]

@[simp] theorem wordOfBytes_lo_hi (w : Word) : wordOfBytes (loByte w) (hiByte w) = w := by
  apply BitVec.eq_of_getLsbD_eq; intro i hi
  simp only [wordOfBytes, loByte, hiByte, BitVec.getLsbD_extractLsb', BitVec.getLsbD_append]
  by_cases h : i < 8
  · simp [h]
  · have h8 : i - 8 < 8 := by omega
    have h9 : 8 + (i - 8) = i := by omega
    simp [h, h8, h9]

@[simp] theorem loByte_wordOfBytes (lo hi : Byte) : loByte (wordOfBytes lo hi) = lo := by
  apply BitVec.eq_of_getLsbD_eq; intro i hi
  simp only [wordOfBytes, loByte, BitVec.getLsbD_extractLsb', BitVec.getLsbD_append]
  simp [hi]

@[simp] theorem hiByte_wordOfBytes (lo hi : Byte) : hiByte (wordOfBytes lo hi) = hi := by
  apply BitVec.eq_of_getLsbD_eq; intro i hi
  simp only [wordOfBytes, hiByte, BitVec.getLsbD_extractLsb', BitVec.getLsbD_append]
  simp [hi]

/-- An 8-bit register reads what was written to it, and no other 8-bit register changes (10_state.md R32). -/
@[simp] theorem reg8_setReg8 (q r : Reg8) (v : Byte) (s : State) :
    reg8 q (setReg8 r v s) = if q = r then v else reg8 q s := by
  cases q <;> cases r <;> simp [reg8, setReg8, wholeOf, isHighHalf]

/-- Writing an 8-bit register leaves every 16-bit register but the one that holds it. -/
theorem reg16_setReg8 (q : Reg16) (r : Reg8) (v : Byte) (s : State) :
    reg16 q (setReg8 r v s) = if q = wholeOf r then (if isHighHalf r then setHi (reg16 q s) v else setLo (reg16 q s) v)
      else reg16 q s := by
  unfold setReg8
  rw [reg16_setReg16]
  split
  · next h => subst h; rfl
  · rfl

theorem setLo_hi_lo (w : Word) : setLo w (loByte w) = w := by
  have := wordOfBytes_lo_hi w; exact this

/-! ### FLAGS -/

theorem Flag.bit_lt (f : Flag) : f.bit < 16 := by cases f <;> decide

theorem Flag.bit_inj {f g : Flag} (h : f.bit = g.bit) : f = g := by
  cases f <;> cases g <;> first | rfl | (exact absurd h (by decide))

/-- Every bit of a flags word after one flag is set. -/
@[simp] theorem getLsbD_putFlag (f : Flag) (b : Bool) (w : Word) (i : Nat) :
    (putFlag f b w).getLsbD i = if i = f.bit then b else w.getLsbD i := by
  have hf := f.bit_lt
  by_cases hi : i < 16
  · by_cases h : i = f.bit
    · subst h
      cases b <;> simp [putFlag, hi]
    · cases b <;> simp [putFlag, h, hi]
  · have h : ¬ i = f.bit := by omega
    rw [if_neg h, BitVec.getLsbD_of_ge _ _ (by omega), BitVec.getLsbD_of_ge _ _ (by omega)]

@[simp] theorem flagOf_putFlag (f g : Flag) (b : Bool) (w : Word) :
    flagOf f (putFlag g b w) = if f = g then b else flagOf f w := by
  unfold flagOf
  rw [getLsbD_putFlag]
  by_cases h : f = g
  · subst h; simp
  · have : ¬ f.bit = g.bit := fun e => h (Flag.bit_inj e)
    simp [h, this]

theorem getLsbD_storeWord (v : Word) (i : Nat) : (storeWord v).getLsbD i = (decide (i = 1) || v.getLsbD i) := by
  unfold storeWord
  rw [BitVec.getLsbD_or]
  have h : (0x0002#16 : Word).getLsbD i = decide (i = 1) := by
    have : (0x0002#16 : Word) = BitVec.twoPow 16 1 := by decide
    rw [this, BitVec.getLsbD_twoPow]
    by_cases hi : i = 1 <;> simp [hi, eq_comm]
  rw [h, Bool.or_comm]

@[simp] theorem flag_setFlag (f g : Flag) (b : Bool) (s : State) :
    flag f (setFlag g b s) = if f = g then b else flag f s := by
  simp [flag]

@[simp] theorem flag_setFlags (f : Flag) (w : Word) (s : State) : flag f (setFlags w s) = flagOf f w := rfl

@[simp] theorem flag_clearTfIf (f : Flag) (s : State) :
    flag f (clearTfIf s) = if f = .interrupt then false else if f = .trap then false else flag f s := by
  simp [flag]

/-- `undefFlags` gives free values to the listed flags and keeps every other bit. -/
theorem undefFlags_bit (fs : List Flag) (s : State) (i : Nat) (h : ∀ f ∈ fs, f.bit ≠ i) :
    (undefFlags fs s).flags.getLsbD i = s.flags.getLsbD i := by
  induction fs generalizing s with
  | nil => rfl
  | cons f fs ih =>
    rw [undefFlags, ih _ (fun g hg => h g (List.mem_cons_of_mem _ hg))]
    have hf : ¬ i = f.bit := fun e => h f (List.mem_cons_self ..) e.symm
    simp [hf]

/-- `undefFlags` keeps every flag it does not list. -/
theorem undefFlags_flag (fs : List Flag) (s : State) {f : Flag} (h : f ∉ fs) : flag f (undefFlags fs s) = flag f s :=
  undefFlags_bit fs s f.bit fun g hg e => h (by rwa [← Flag.bit_inj e])

/-! ### The flag helpers keep every bit that is no status flag -/

theorem szp_bit {n : Nat} (r : BitVec n) (fl : Word) (i : Nat) :
    (szp r fl).getLsbD i =
      if i = 7 then r.msb else if i = 6 then r == 0#n else if i = 2 then parity (r.setWidth 8) else fl.getLsbD i := by
  simp [szp, Flag.bit]; rfl

@[simp] theorem szp_sign {n : Nat} (r : BitVec n) (fl : Word) : flagOf .sign (szp r fl) = r.msb := by simp [szp]
@[simp] theorem szp_zero {n : Nat} (r : BitVec n) (fl : Word) : flagOf .zero (szp r fl) = (r == 0#n) := by simp [szp]
@[simp] theorem szp_parity {n : Nat} (r : BitVec n) (fl : Word) : flagOf .parity (szp r fl) = parity (r.setWidth 8) := by
  simp [szp]

/-- The bits of FLAGS an arithmetic operation may change. -/
def isStatusBit (i : Nat) : Bool := i == 0 || i == 2 || i == 4 || i == 6 || i == 7 || i == 11

theorem addFlags_bit {n : Nat} (a b : BitVec n) (c : Bool) (fl : Word) {i : Nat} (h : isStatusBit i = false) :
    (addFlags a b c fl).2.getLsbD i = fl.getLsbD i := by
  simp only [isStatusBit, Bool.or_eq_false_iff, beq_eq_false_iff_ne] at h
  simp [addFlags, szp, Flag.bit, h]

theorem subFlags_bit {n : Nat} (a b : BitVec n) (c : Bool) (fl : Word) {i : Nat} (h : isStatusBit i = false) :
    (subFlags a b c fl).2.getLsbD i = fl.getLsbD i := by
  simp only [isStatusBit, Bool.or_eq_false_iff, beq_eq_false_iff_ne] at h
  simp [subFlags, szp, Flag.bit, h]

theorem logicFlags_bit {n : Nat} (r : BitVec n) (fl : Word) {i : Nat} (h : isStatusBit i = false) :
    (logicFlags r fl).getLsbD i = fl.getLsbD i := by
  simp only [isStatusBit, Bool.or_eq_false_iff, beq_eq_false_iff_ne] at h
  simp [logicFlags, szp, Flag.bit, h]

theorem aluFlags_bit {n : Nat} (op : AluOp) (a b : BitVec n) (fl : Word) {i : Nat} (h : isStatusBit i = false) :
    (aluFlags op a b fl).2.getLsbD i = fl.getLsbD i := by
  cases op <;> simp [aluFlags, addFlags_bit, subFlags_bit, logicFlags_bit, h]

theorem incFlags_bit {n : Nat} (a : BitVec n) (fl : Word) {i : Nat} (h : isStatusBit i = false) :
    (incFlags a fl).2.getLsbD i = fl.getLsbD i := by
  have h' := h
  simp only [isStatusBit, Bool.or_eq_false_iff, beq_eq_false_iff_ne] at h'
  simp [incFlags, Flag.bit, addFlags_bit, h, h']

theorem decFlags_bit {n : Nat} (a : BitVec n) (fl : Word) {i : Nat} (h : isStatusBit i = false) :
    (decFlags a fl).2.getLsbD i = fl.getLsbD i := by
  have h' := h
  simp only [isStatusBit, Bool.or_eq_false_iff, beq_eq_false_iff_ne] at h'
  simp [decFlags, Flag.bit, subFlags_bit, h, h']

theorem shiftFlags_bit {n : Nat} (op : ShiftOp) (v : BitVec n) (k : Nat) (fl : Word) {i : Nat} (h : isStatusBit i = false) :
    (shiftFlags op v k fl).2.getLsbD i = fl.getLsbD i := by
  simp only [isStatusBit, Bool.or_eq_false_iff, beq_eq_false_iff_ne] at h
  unfold shiftFlags
  cases isPlainShift op <;> simp [szp, Flag.bit, h]

end Sys2Proof.Machine
end

