-- ==== Sys2Proof/Laws/Frames.lean ====
section
/-! SUPPORT. The frame terms of Safety.lean: what it takes to show one, that each shared operation meets it, and what reading
and writing an operand's location does. -/

namespace Sys2Proof.Machine

/-! ### `SameSystem` field by field -/

theorem sameSystem_iff {s t : State} : SameSystem s t ↔
    t.trap = s.trap ∧ t.debugBreak = s.debugBreak ∧ t.icount = s.icount ∧ t.cycles = s.cycles ∧ t.signal = s.signal ∧
    t.dec = s.dec ∧ t.memTable = s.memTable ∧ t.ioTable = s.ioTable ∧ t.peripherals = s.peripherals ∧
    t.softInt = s.softInt ∧ t.pic = s.pic ∧ t.cpuMode = s.cpuMode ∧ t.wordWrap = s.wordWrap := by
  constructor
  · intro h
    unfold SameSystem at h
    rw [h]
    exact ⟨rfl, rfl, rfl, rfl, rfl, rfl, rfl, rfl, rfl, rfl, rfl, rfl, rfl⟩
  · rintro ⟨h1, h2, h3, h4, h5, h6, h7, h8, h9, h10, h11, h12, h13⟩
    unfold SameSystem
    cases s; cases t
    simp only at h1 h2 h3 h4 h5 h6 h7 h8 h9 h10 h11 h12 h13
    subst h1 h2 h3 h4 h5 h6 h7 h8 h9 h10 h11 h12 h13
    rfl

theorem SameSystem.refl (s : State) : SameSystem s s := rfl

theorem SameSystem.trans {s t u : State} (h : SameSystem s t) (h' : SameSystem t u) : SameSystem s u := by
  rw [sameSystem_iff] at *
  simp_all

theorem SameSystem.kindAt {s t : State} (h : SameSystem s t) (a : Addr) : kindAt t a = kindAt s a := by
  rw [sameSystem_iff] at h
  exact kindAt_congr h.2.2.2.2.2.2.1 h.2.2.2.2.2.2.2.2.1 a

/-! ### Register frames -/

theorem SameRegsBut.refl (rs : List Reg16) (s : State) : SameRegsBut rs s s := fun _ _ => rfl

theorem sameRegsBut_of_gpr_eq (rs : List Reg16) {s t : State} (h : t.gpr = s.gpr) : SameRegsBut rs s t :=
  fun r _ => reg16_congr h r

/-- A general register set to a value. -/
theorem sameRegsBut_of_set {s t : State} {r : Reg16} {v : Word} (h : t.gpr = s.gpr.set r v) (rs : List Reg16)
    (hr : r ∈ rs) : SameRegsBut rs s t := by
  intro q hq
  rw [reg16_of_set h rfl]
  exact if_neg fun e : q = r => hq (by rw [e]; exact hr)

theorem sameSregsBut_of_seg_eq (rs : List Sreg) {s t : State} (h : t.seg = s.seg) : SameSregsBut rs s t :=
  fun r _ => sreg_congr h r

theorem sameFlagsBut_of_eq (fs : List Flag) {s t : State} (h : t.flags = s.flags) : SameFlagsBut fs s t :=
  fun i _ => by rw [h]

/-! ### Reading through a location changes the device record only -/

@[simp] theorem readLoc8_ofReg (r : Reg8) (s : State) : readLoc8 (.reg r) s = (reg8 r s, s) := rfl
@[simp] theorem readLoc16_ofReg (r : Reg16) (s : State) : readLoc16 (.reg r) s = (reg16 r s, s) := rfl
@[simp] theorem readLoc16_ofSreg (r : Sreg) (s : State) : readLoc16 (.sreg r) s = (sreg r s, s) := rfl
@[simp] theorem value8_reg (r : Reg8) (s : State) : value8 (.reg r) s = reg8 r s := rfl
@[simp] theorem value16_reg (r : Reg16) (s : State) : value16 (.reg r) s = reg16 r s := rfl

/-- What a read answers depends on the contents, the tables and the number of the draw only. -/
theorem busRead8_congr {s t : State} (a : Addr) (hm : t.mem = s.mem) (hd : t.draws = s.draws)
    (ht : t.memTable = s.memTable) (hp : t.peripherals = s.peripherals) : (busRead8 a t).1 = (busRead8 a s).1 := by
  unfold busRead8
  rw [kindAt_congr ht hp, ht, hm]
  split <;> simp [drawAnswer, hd]

theorem busRead8_draws_congr {s t : State} (a : Addr) (hd : t.draws = s.draws)
    (ht : t.memTable = s.memTable) (hp : t.peripherals = s.peripherals) :
    (busRead8 a t).2.draws = (busRead8 a s).2.draws := by
  unfold busRead8
  rw [kindAt_congr ht hp]
  split <;> simp [drawAnswer, hd]

theorem memRead16_congr {s t : State} (g o : Word) (hm : t.mem = s.mem) (hd : t.draws = s.draws)
    (ht : t.memTable = s.memTable) (hp : t.peripherals = s.peripherals) (hw : t.wordWrap = s.wordWrap) :
    (memRead16 g o t).1 = (memRead16 g o s).1 := by
  simp only [memRead16]
  rw [busRead8_congr (lin g o) hm hd ht hp, hw,
    busRead8_congr (s := (busRead8 (lin g o) s).2) (t := (busRead8 (lin g o) t).2)]
  · simpa using hm
  · exact busRead8_draws_congr _ hd ht hp
  · simpa using ht
  · simpa using hp

theorem memRead16_draws_congr {s t : State} (g o : Word) (hd : t.draws = s.draws)
    (ht : t.memTable = s.memTable) (hp : t.peripherals = s.peripherals) (hw : t.wordWrap = s.wordWrap) :
    (memRead16 g o t).2.draws = (memRead16 g o s).2.draws := by
  simp only [memRead16]
  rw [hw]
  apply busRead8_draws_congr
  · exact busRead8_draws_congr _ hd ht hp
  · simpa using ht
  · simpa using hp

/-- A byte that `peek` sees is what a read gives, and the read changes nothing. -/
theorem busRead8_of_peek {s : State} {a : Addr} {b : Byte} (h : peek s a = some b) : busRead8 a s = (b, s) := by
  unfold peek at h
  unfold busRead8
  cases hk : kindAt s a with
  | none => rw [hk] at h; simp at h; simp [h]
  | some k => cases k <;> rw [hk] at h <;> simp at h <;> simp [h]

theorem peek_congr {s t : State} (hm : t.mem = s.mem) (ht : t.memTable = s.memTable) (hp : t.peripherals = s.peripherals)
    (a : Addr) : peek t a = peek s a := by
  unfold peek
  rw [kindAt_congr ht hp, hm]

theorem memRead16_of_peekWord {s : State} {g o w : Word} (h : peekWord s g o = some w) : memRead16 g o s = (w, s) := by
  unfold peekWord at h
  split at h
  · next lo hi hl hh =>
    simp only [Option.some.injEq] at h
    simp only [memRead16]
    rw [busRead8_of_peek hl]
    simp only
    rw [busRead8_of_peek hh, h]
  · exact absurd h (by simp)

/-! ### Writing through a location -/

/-- What writing a byte location does (10_state.md R48; 20_memory.md R87). -/
theorem writeLoc8_put {s : State} (hw : s.mem.wf = true) (l : Loc8) (v : Byte) : PutByte l v s (writeLoc8 l v s) := by
  cases l with
  | reg r =>
    refine ⟨rfl, fun q => reg8_setReg8 q r v s, ?_, rfl⟩
    intro q hq
    show reg16 q (setReg8 r v s) = _
    rw [reg16_setReg8, if_neg]
    rintro rfl
    cases r <;> simp [wholeOf] at hq
  | mem g o => exact ⟨by simp [writeLoc8], by simp [writeLoc8], memWrite8_stored hw _ _ _⟩

/-- What writing a word location does (10_state.md R48; 20_memory.md R87). -/
theorem writeLoc16_put {s : State} (hw : s.mem.wf = true) (l : Loc16) (v : Word) : PutWord l v s (writeLoc16 l v s) := by
  cases l with
  | reg r => exact ⟨fun q => reg16_setReg16 q r v s, rfl, rfl⟩
  | sreg r => exact ⟨fun q => sreg_setSreg q r v s, rfl, rfl⟩
  | mem g o => exact ⟨by simp [writeLoc16], by simp [writeLoc16], memWrite16_stored hw _ _ _⟩

/-- `PutByte` looks at registers, memory and kinds only. -/
theorem PutByte.congr {l : Loc8} {v : Byte} {s t s' t' : State} (h : PutByte l v s t) (hg : s'.gpr = s.gpr)
    (hs : s'.seg = s.seg) (hm : s'.mem = s.mem) (hk : ∀ a, kindAt s' a = kindAt s a) (hg' : t'.gpr = t.gpr)
    (hs' : t'.seg = t.seg) (hm' : t'.mem = t.mem) : PutByte l v s' t' := by
  obtain ⟨h0, h⟩ := h
  refine ⟨by rw [hs', hs, h0], ?_⟩
  cases l with
  | reg r =>
    obtain ⟨h1, h2, h3⟩ := h
    refine ⟨fun q => ?_, fun q hq => ?_, by rw [hm', hm, h3]⟩
    · rw [reg8_congr hg', reg8_congr hg, h1 q]
    · rw [reg16_congr hg', reg16_congr hg, h2 q hq]
  | mem g o =>
    obtain ⟨h1, h2⟩ := h
    exact ⟨by rw [hg', hg, h1], h2.congr hm hm' hk⟩

/-- `PutWord` looks at registers, memory, kinds and the word wrap only. -/
theorem PutWord.congr {l : Loc16} {v : Word} {s t s' t' : State} (h : PutWord l v s t) (hg : s'.gpr = s.gpr)
    (hs : s'.seg = s.seg) (hm : s'.mem = s.mem) (hk : ∀ a, kindAt s' a = kindAt s a) (hw : s'.wordWrap = s.wordWrap)
    (hg' : t'.gpr = t.gpr) (hs' : t'.seg = t.seg) (hm' : t'.mem = t.mem) : PutWord l v s' t' := by
  cases l with
  | reg r =>
    obtain ⟨h1, h2, h3⟩ := h
    exact ⟨fun q => by rw [reg16_congr hg', reg16_congr hg, h1 q], by rw [hs', hs, h2], by rw [hm', hm, h3]⟩
  | sreg r =>
    obtain ⟨h1, h2, h3⟩ := h
    exact ⟨fun q => by rw [sreg_congr hs', sreg_congr hs, h1 q], by rw [hg', hg, h2], by rw [hm', hm, h3]⟩
  | mem g o =>
    obtain ⟨h1, h2, h3⟩ := h
    exact ⟨by rw [hg', hg, h1], by rw [hs', hs, h2], by rw [hw]; exact h3.congr hm hm' hk⟩

/-! ### The interrupt entry -/

/-- Three pushes one after another (20_memory.md R94). -/
theorem push3_stored {s : State} (hw : s.mem.wf = true) (a b c : Word) :
    Stored (wordCells s.wordWrap s.seg.ss (s.gpr.sp - 6#16) c ++ wordCells s.wordWrap s.seg.ss (s.gpr.sp - 4#16) b
      ++ wordCells s.wordWrap s.seg.ss (s.gpr.sp - 2#16) a) s (push16 c (push16 b (push16 a s))) := by
  have h1 := push16_stored hw a
  have h2 := push16_stored (push16_wf hw a) b
  have h3 := push16_stored (push16_wf (push16_wf hw a) b) c
  simp only [push16_wordWrap, push16_seg, push16_gpr, Gpr.set_sp_sp] at h2 h3
  have e4 : s.gpr.sp - 2#16 - 2#16 = s.gpr.sp - 4#16 := by bv_omega
  have e6 : s.gpr.sp - 2#16 - 2#16 - 2#16 = s.gpr.sp - 6#16 := by bv_omega
  rw [e4] at h2
  rw [e6] at h3
  rw [List.append_assoc]
  exact (h1.trans h2 (by simp)).trans h3 (by simp)

/-- A vector's words do not reach the end of segment 0, so the word wrap is out of play (60_exceptions.md R510). -/
theorem hiAddr_vector (w : WordWrap) (o : Word) (h : o.toNat < 1024) : hiAddr w 0#16 o = lin 0#16 (o + 1#16) := by
  cases w
  · rfl
  · simp only [hiAddr, lin]; bv_omega

theorem vectorOff_lt (n : Byte) : (vectorOff n).toNat ≤ 1020 := by unfold vectorOff; bv_omega

/-- What interrupt entry does (60_exceptions.md R510, R512). -/
theorem vectorThrough_entered {s : State} (hw : s.mem.wf = true) (n : Byte) : Entered n s.ip s (vectorThrough n s) := by
  have hst := push3_stored hw s.flags s.seg.cs s.ip
  have hm : (vectorThrough n s).mem = (push16 s.ip (push16 s.seg.cs (push16 s.flags s))).mem := by
    simp [vectorThrough]
  have hg : (vectorThrough n s).gpr = s.gpr.set .sp (s.gpr.sp - 6#16) := by
    have e6 : s.gpr.sp - 2#16 - 2#16 - 2#16 = s.gpr.sp - 6#16 := by bv_omega
    simp [vectorThrough, ← e6]; rfl
  have hf : ∀ f, flag f (vectorThrough n s) = if f = .interrupt then false else if f = .trap then false else flag f s := by
    intro f
    unfold vectorThrough
    simp
  refine ⟨?_, sameRegsBut_of_set hg _ (by simp), ?_, by rw [hg]; rfl, hst.congr rfl hm (fun _ => rfl), ?_, ?_, ?_, ?_⟩
  · rw [sameSystem_iff]; simp
  · intro q hq
    have : q ≠ .cs := by simpa using hq
    unfold vectorThrough
    simp [this]
  · rw [hf]; rfl
  · rw [hf]; rfl
  · intro i hi
    have h1 := hi .trap (by simp)
    have h2 := hi .interrupt (by simp)
    simp only [vectorThrough, clearTfIf, setFlag]
    simp [Ne.symm h1, Ne.symm h2]
  · intro b0 b1 b2 b3 h0 h1 h2 h3
    have hpk : ∀ u : State, u.mem = (vectorThrough n s).mem → u.memTable = s.memTable → u.peripherals = s.peripherals →
        ∀ a, peek u a = peek (vectorThrough n s) a := fun u a1 a2 a3 a =>
      peek_congr a1 (by simpa using a2) (by simpa using a3) a
    have hlt := vectorOff_lt n
    have e1 : ∀ u : State, u.mem = (vectorThrough n s).mem → u.memTable = s.memTable → u.peripherals = s.peripherals →
        memRead16 0#16 (vectorOff n) u = (wordOfBytes b0 b1, u) := by
      intro u a1 a2 a3
      apply memRead16_of_peekWord
      unfold peekWord
      rw [hiAddr_vector _ _ (by omega), hpk u a1 a2 a3, hpk u a1 a2 a3, h0, h1]
    have e2 : ∀ u : State, u.mem = (vectorThrough n s).mem → u.memTable = s.memTable → u.peripherals = s.peripherals →
        memRead16 0#16 (vectorOff n + 2#16) u = (wordOfBytes b2 b3, u) := by
      intro u a1 a2 a3
      apply memRead16_of_peekWord
      unfold peekWord
      have e : vectorOff n + 2#16 + 1#16 = vectorOff n + 3#16 := by bv_omega
      rw [hiAddr_vector _ _ (by bv_omega), e, hpk u a1 a2 a3, hpk u a1 a2 a3, h2, h3]
    have e0 : vectorThrough n s = clearTfIf (farTo (wordOfBytes b2 b3) (wordOfBytes b0 b1)
        (push16 s.ip (push16 s.seg.cs (push16 s.flags s)))) := by
      unfold vectorThrough
      simp only [push16_seg, push16_ip]
      rw [e1 _ hm.symm (by simp) (by simp), e2 _ hm.symm (by simp) (by simp)]
    rw [e0]
    exact ⟨rfl, rfl⟩

end Sys2Proof.Machine
end

