-- ==== Sys2Proof/Laws/Effects.lean ====
section
/-! SUPPORT. What the shared operations can do at most, said once: `Tame s t` says that `t` differs from `s` in registers, IP,
status flags, contents of memory and device record only, and that the canonical form of memory is kept. One lemma for each
operation, in the form that lets them be chained over a composition. -/

namespace Sys2Proof.Machine

/-- `t` is `s` but for registers, IP, status flags, contents and the device record; the canonical form is kept. -/
def Tame (s t : State) : Prop :=
  SameSystem s t ∧ (s.mem.wf = true → t.mem.wf = true) ∧
  ∀ i, isStatusBit i = false → t.flags.getLsbD i = s.flags.getLsbD i

theorem Tame.refl (s : State) : Tame s s := ⟨.refl s, id, fun _ _ => rfl⟩

theorem Tame.trans {s t u : State} (h : Tame s t) (h' : Tame t u) : Tame s u :=
  ⟨h.1.trans h'.1, fun hw => h'.2.1 (h.2.1 hw), fun i hi => (h'.2.2 i hi).trans (h.2.2 i hi)⟩

/-- Registers, IP and the device record are open; memory and FLAGS are as they were. -/
theorem tame_of_same {s t : State} (h : SameSystem s t) (hm : t.mem = s.mem) (hf : t.flags = s.flags) : Tame s t :=
  ⟨h, fun hw => by rw [hm]; exact hw, fun _ _ => by rw [hf]⟩

/-- Memory is open as far as its canonical form goes. -/
theorem tame_of_wf {s t : State} (h : SameSystem s t) (hm : s.mem.wf = true → t.mem.wf = true)
    (hf : t.flags = s.flags) : Tame s t :=
  ⟨h, hm, fun _ _ => by rw [hf]⟩

section ops

variable {s t : State}

/-! ### Registers and flags -/

theorem tame_setReg16 (r : Reg16) (v : Word) (h : Tame s t) : Tame s (setReg16 r v t) :=
  h.trans (tame_of_same (by simp [sameSystem_iff]) rfl rfl)

theorem tame_setReg8 (r : Reg8) (v : Byte) (h : Tame s t) : Tame s (setReg8 r v t) := tame_setReg16 _ _ h

theorem tame_setSreg (r : Sreg) (v : Word) (h : Tame s t) : Tame s (setSreg r v t) :=
  h.trans (tame_of_same (by simp [sameSystem_iff]) rfl rfl)

theorem tame_setIp (v : Word) (h : Tame s t) : Tame s (setIp v t) :=
  h.trans (tame_of_same (by simp [sameSystem_iff]) rfl rfl)

theorem tame_farTo (c v : Word) (h : Tame s t) : Tame s (farTo c v t) :=
  h.trans (tame_of_same (by simp [sameSystem_iff]) rfl rfl)

theorem tame_decSp (h : Tame s t) : Tame s (decSp t) := tame_setReg16 _ _ h

theorem tame_setFlags {w : Word} (hw : ∀ i, isStatusBit i = false → w.getLsbD i = t.flags.getLsbD i) (h : Tame s t) :
    Tame s (setFlags w t) :=
  h.trans ⟨by simp [sameSystem_iff], id, hw⟩

theorem Flag.bit_status_of_ne {f : Flag} (hf : isStatusBit f.bit = true) {i : Nat} (hi : isStatusBit i = false) :
    ¬ i = f.bit := by
  rintro rfl; rw [hf] at hi; exact absurd hi (by decide)

theorem tame_setFlag (f : Flag) (b : Bool) (hf : isStatusBit f.bit = true) (h : Tame s t) : Tame s (setFlag f b t) :=
  h.trans ⟨by simp [sameSystem_iff], id, fun i hi => by simp [Flag.bit_status_of_ne hf hi]⟩

theorem tame_undefFlags (fs : List Flag) (hf : ∀ f ∈ fs, isStatusBit f.bit = true) (h : Tame s t) :
    Tame s (undefFlags fs t) :=
  h.trans ⟨by simp [sameSystem_iff], by simp, fun i hi =>
    undefFlags_bit fs t i fun f hm e => Flag.bit_status_of_ne (hf f hm) hi e.symm⟩

/-! ### Reads -/

theorem tame_busRead8 (a : Addr) (h : Tame s t) : Tame s (busRead8 a t).2 :=
  h.trans (tame_of_same (by simp [sameSystem_iff]) (by simp) (by simp))

theorem tame_memRead8 (g o : Word) (h : Tame s t) : Tame s (memRead8 g o t).2 := tame_busRead8 _ h

theorem tame_memRead16 (g o : Word) (h : Tame s t) : Tame s (memRead16 g o t).2 :=
  h.trans (tame_of_same (by simp [sameSystem_iff]) (by simp) (by simp))

theorem tame_ioIn8 (p : Word) (h : Tame s t) : Tame s (ioIn8 p t).2 :=
  h.trans (tame_of_same (by simp [sameSystem_iff]) (by simp) (by simp))

theorem tame_ioIn16 (p : Word) (h : Tame s t) : Tame s (ioIn16 p t).2 :=
  h.trans (tame_of_same (by simp [sameSystem_iff]) (by simp) (by simp))

theorem tame_readLoc8 (l : Loc8) (h : Tame s t) : Tame s (readLoc8 l t).2 :=
  h.trans (tame_of_same (by simp [sameSystem_iff]) (by simp) (by simp))

theorem tame_readLoc16 (l : Loc16) (h : Tame s t) : Tame s (readLoc16 l t).2 :=
  h.trans (tame_of_same (by simp [sameSystem_iff]) (by simp) (by simp))

theorem tame_readFar (m : MemOp) (h : Tame s t) : Tame s (readFar m t).2 :=
  h.trans (tame_of_same (by simp [sameSystem_iff]) (by simp) (by simp))

theorem tame_pop16 (h : Tame s t) : Tame s (pop16 t).2 :=
  h.trans (tame_of_same (by simp [sameSystem_iff]) (by simp) (by simp))

theorem tame_fetch8 (h : Tame s t) : Tame s (fetch8 t).2 :=
  h.trans (tame_of_same (by simp [sameSystem_iff]) (by simp) (by simp))

theorem tame_fetchBytes (k : Nat) (h : Tame s t) : Tame s (fetchBytes k t).2 :=
  h.trans (tame_of_same (by simp [sameSystem_iff]) (by simp) (by simp))

/-! ### Writes -/

theorem tame_busWrite8 (a : Addr) (v : Byte) (h : Tame s t) : Tame s (busWrite8 a v t) :=
  h.trans (tame_of_wf (by simp [sameSystem_iff]) (fun hw => busWrite8_wf hw _ _) (by simp))

theorem tame_memWrite8 (g o : Word) (v : Byte) (h : Tame s t) : Tame s (memWrite8 g o v t) := tame_busWrite8 _ _ h

theorem tame_memWrite16 (g o v : Word) (h : Tame s t) : Tame s (memWrite16 g o v t) :=
  h.trans (tame_of_wf (by simp [sameSystem_iff]) (fun hw => memWrite16_wf hw _ _ _) (by simp))

theorem tame_ioOut8 (p : Word) (v : Byte) (h : Tame s t) : Tame s (ioOut8 p v t) :=
  h.trans (tame_of_same (by simp [sameSystem_iff]) (by simp) (by simp))

theorem tame_ioOut16 (p v : Word) (h : Tame s t) : Tame s (ioOut16 p v t) :=
  h.trans (tame_of_same (by simp [sameSystem_iff]) (by simp) (by simp))

theorem tame_push16 (v : Word) (h : Tame s t) : Tame s (push16 v t) :=
  h.trans (tame_of_wf (by simp [sameSystem_iff]) (fun hw => push16_wf hw _) (by simp))

theorem tame_writeLoc8 (l : Loc8) (v : Byte) (h : Tame s t) : Tame s (writeLoc8 l v t) :=
  h.trans (tame_of_wf (by simp [sameSystem_iff]) (fun hw => writeLoc8_wf hw _ _) (by simp))

theorem tame_writeLoc16 (l : Loc16) (v : Word) (h : Tame s t) : Tame s (writeLoc16 l v t) :=
  h.trans (tame_of_wf (by simp [sameSystem_iff]) (fun hw => writeLoc16_wf hw _ _) (by simp))

/-! ### Shapes of instruction -/

theorem tame_move8 (d c : Loc8) (h : Tame s t) : Tame s (move8 d c t) := tame_writeLoc8 _ _ (tame_readLoc8 _ h)

theorem tame_move16 (d c : Loc16) (h : Tame s t) : Tame s (move16 d c t) := tame_writeLoc16 _ _ (tame_readLoc16 _ h)

theorem tame_exchange8 (e g : Loc8) (h : Tame s t) : Tame s (exchange8 e g t) :=
  tame_writeLoc8 _ _ (tame_writeLoc8 _ _ (tame_readLoc8 _ (tame_readLoc8 _ h)))

theorem tame_exchange16 (e g : Loc16) (h : Tame s t) : Tame s (exchange16 e g t) :=
  tame_writeLoc16 _ _ (tame_writeLoc16 _ _ (tame_readLoc16 _ (tame_readLoc16 _ h)))

theorem tame_pushLoc (l : Loc16) (h : Tame s t) : Tame s (pushLoc l t) :=
  tame_memWrite16 _ _ _ (tame_readLoc16 _ (tame_decSp h))

theorem tame_popLoc (l : Loc16) (h : Tame s t) : Tame s (popLoc l t) := tame_writeLoc16 _ _ (tame_pop16 h)

theorem tame_aluApply8 (op : AluOp) (d : Loc8) (a b : Byte) (h : Tame s t) : Tame s (aluApply8 op d a b t) := by
  have hf : Tame s (setFlags (aluFlags op a b t.flags).2 t) := tame_setFlags (fun _ hi => aluFlags_bit _ _ _ _ hi) h
  unfold aluApply8
  split
  · exact hf
  · exact tame_writeLoc8 _ _ hf

theorem tame_aluApply16 (op : AluOp) (d : Loc16) (a b : Word) (h : Tame s t) : Tame s (aluApply16 op d a b t) := by
  have hf : Tame s (setFlags (aluFlags op a b t.flags).2 t) := tame_setFlags (fun _ hi => aluFlags_bit _ _ _ _ hi) h
  unfold aluApply16
  split
  · exact hf
  · exact tame_writeLoc16 _ _ hf

theorem tame_alu8 (op : AluOp) (d c : Loc8) (h : Tame s t) : Tame s (alu8 op d c t) :=
  tame_aluApply8 _ _ _ _ (tame_readLoc8 _ (tame_readLoc8 _ h))

theorem tame_alu16 (op : AluOp) (d c : Loc16) (h : Tame s t) : Tame s (alu16 op d c t) :=
  tame_aluApply16 _ _ _ _ (tame_readLoc16 _ (tame_readLoc16 _ h))

theorem tame_aluImm8 (op : AluOp) (d : Loc8) (v : Byte) (h : Tame s t) : Tame s (aluImm8 op d v t) :=
  tame_aluApply8 _ _ _ _ (tame_readLoc8 _ h)

theorem tame_aluImm16 (op : AluOp) (d : Loc16) (v : Word) (h : Tame s t) : Tame s (aluImm16 op d v t) :=
  tame_aluApply16 _ _ _ _ (tame_readLoc16 _ h)

theorem tame_modify8 {f : Byte → Word → Byte × Word}
    (hf : ∀ a fl i, isStatusBit i = false → (f a fl).2.getLsbD i = fl.getLsbD i) (l : Loc8) (h : Tame s t) :
    Tame s (modify8 f l t) :=
  tame_writeLoc8 _ _ (tame_setFlags (fun i hi => hf _ _ i hi) (tame_readLoc8 _ h))

theorem tame_modify16 {f : Word → Word → Word × Word}
    (hf : ∀ a fl i, isStatusBit i = false → (f a fl).2.getLsbD i = fl.getLsbD i) (l : Loc16) (h : Tame s t) :
    Tame s (modify16 f l t) :=
  tame_writeLoc16 _ _ (tame_setFlags (fun i hi => hf _ _ i hi) (tame_readLoc16 _ h))

theorem tame_testWith {n : Nat} (a b : BitVec n) (h : Tame s t) : Tame s (testWith a b t) :=
  tame_setFlags (fun _ hi => logicFlags_bit _ _ hi) h

theorem tame_shiftAux (op : ShiftOp) (h : Tame s t) : Tame s (shiftAux op t) := by
  unfold shiftAux
  split
  · exact tame_undefFlags _ (by decide) h
  · exact h

theorem tame_shift8 (op : ShiftOp) (l : Loc8) (raw : Byte) (h : Tame s t) : Tame s (shift8 op l raw t) := by
  unfold shift8
  dsimp only
  split
  · exact tame_readLoc8 _ h
  · exact tame_writeLoc8 _ _ (tame_shiftAux _ (tame_setFlags (fun _ hi => shiftFlags_bit _ _ _ _ hi) (tame_readLoc8 _ h)))

theorem tame_shift16 (op : ShiftOp) (l : Loc16) (raw : Byte) (h : Tame s t) : Tame s (shift16 op l raw t) := by
  unfold shift16
  dsimp only
  split
  · exact tame_readLoc16 _ h
  · exact tame_writeLoc16 _ _ (tame_shiftAux _ (tame_setFlags (fun _ hi => shiftFlags_bit _ _ _ _ hi) (tame_readLoc16 _ h)))

theorem tame_jumpIf (c : Bool) (d : Byte) (h : Tame s t) : Tame s (jumpIf c d t) := by
  unfold jumpIf
  split
  · exact tame_setIp _ h
  · exact h

/-! ### String primitives, arithmetic and the frames of the V20 -/

theorem tame_stepSi (n : Word) (h : Tame s t) : Tame s (stepSi n t) := tame_setReg16 _ _ h
theorem tame_stepDi (n : Word) (h : Tame s t) : Tame s (stepDi n t) := tame_setReg16 _ _ h

theorem tame_movs8 (h : Tame s t) : Tame s (movs8 t) := tame_stepDi _ (tame_stepSi _ (tame_move8 _ _ h))
theorem tame_movs16 (h : Tame s t) : Tame s (movs16 t) := tame_stepDi _ (tame_stepSi _ (tame_move16 _ _ h))
theorem tame_cmps8 (h : Tame s t) : Tame s (cmps8 t) := tame_stepDi _ (tame_stepSi _ (tame_alu8 _ _ _ h))
theorem tame_cmps16 (h : Tame s t) : Tame s (cmps16 t) := tame_stepDi _ (tame_stepSi _ (tame_alu16 _ _ _ h))
theorem tame_scas8 (h : Tame s t) : Tame s (scas8 t) := tame_stepDi _ (tame_alu8 _ _ _ h)
theorem tame_scas16 (h : Tame s t) : Tame s (scas16 t) := tame_stepDi _ (tame_alu16 _ _ _ h)
theorem tame_lods8 (h : Tame s t) : Tame s (lods8 t) := tame_stepSi _ (tame_move8 _ _ h)
theorem tame_lods16 (h : Tame s t) : Tame s (lods16 t) := tame_stepSi _ (tame_move16 _ _ h)
theorem tame_stos8 (h : Tame s t) : Tame s (stos8 t) := tame_stepDi _ (tame_move8 _ _ h)
theorem tame_stos16 (h : Tame s t) : Tame s (stos16 t) := tame_stepDi _ (tame_move16 _ _ h)
theorem tame_ins8 (h : Tame s t) : Tame s (ins8 t) := tame_stepDi _ (tame_writeLoc8 _ _ (tame_ioIn8 _ h))
theorem tame_ins16 (h : Tame s t) : Tame s (ins16 t) := tame_stepDi _ (tame_writeLoc16 _ _ (tame_ioIn16 _ h))
theorem tame_outs8 (h : Tame s t) : Tame s (outs8 t) := tame_stepSi _ (tame_ioOut8 _ _ (tame_readLoc8 _ h))
theorem tame_outs16 (h : Tame s t) : Tame s (outs16 t) := tame_stepSi _ (tame_ioOut16 _ _ (tame_readLoc16 _ h))

/-- However many iterations the REP loop runs (43_string.md R370). -/
theorem tame_repLoop (opcode : Byte) (scan : Bool) {once : State → State} (ho : ∀ {s t : State}, Tame s t → Tame s (once t))
    (prim : Word) (k : Nat) {u : State} (h : Tame s t) (hu : repLoop opcode scan once prim k t = .next u) : Tame s u := by
  induction k generalizing t with
  | zero => cases hu; exact h
  | succ k ih =>
    have h1 : Tame s (decCx (once (fetch8 (setIp prim t)).2)) := tame_setReg16 _ _ (ho (tame_fetch8 (tame_setIp _ h)))
    simp only [repLoop] at hu
    split at hu
    · split at hu
      · cases hu; exact h1
      · exact ih h1 hu
    · exact absurd hu (by simp)

theorem tame_stringInstr (opcode : Byte) (scan : Bool) {once : State → State}
    (ho : ∀ {s t : State}, Tame s t → Tame s (once t)) {u : State} (h : Tame s t)
    (hu : stringInstr opcode scan once t = .next u) : Tame s u := by
  unfold stringInstr at hu
  split at hu
  · cases hu; exact ho h
  · exact tame_repLoop _ _ ho _ _ h hu
  · exact tame_repLoop _ _ ho _ _ h hu

theorem tame_mulFlags (b : Bool) (h : Tame s t) : Tame s (mulFlags b t) :=
  tame_undefFlags _ (by decide) (tame_setFlag _ _ rfl (tame_setFlag _ _ rfl h))

theorem tame_setDxAx (p : BitVec 32) (h : Tame s t) : Tame s (setDxAx p t) := tame_setReg16 _ _ (tame_setReg16 _ _ h)

theorem tame_quotient8 (q r : Byte) (h : Tame s t) : Tame s (quotient8 q r t) :=
  tame_undefFlags _ (by decide) (tame_setReg8 _ _ (tame_setReg8 _ _ h))

theorem tame_quotient16 (q r : Word) (h : Tame s t) : Tame s (quotient16 q r t) :=
  tame_undefFlags _ (by decide) (tame_setReg16 _ _ (tame_setReg16 _ _ h))

theorem szp_status {n : Nat} (r : BitVec n) (fl : Word) {i : Nat} (h : isStatusBit i = false) :
    (szp r fl).getLsbD i = fl.getLsbD i := by
  simp only [isStatusBit, Bool.or_eq_false_iff, beq_eq_false_iff_ne] at h
  simp [szp_bit, h]

theorem tame_putAdjusted (a : Adjusted) (h : Tame s t) : Tame s (putAdjusted a t) := by
  refine tame_undefFlags _ (by decide) (tame_setFlags (fun i hi => ?_) (tame_setReg8 _ _ h))
  rw [szp_status _ _ hi]
  simp only [isStatusBit, Bool.or_eq_false_iff, beq_eq_false_iff_ne] at hi
  simp [Flag.bit, hi]

theorem tame_asciiAdjust (a b : Byte) (h : Tame s t) : Tame s (asciiAdjust a b t) := by
  refine tame_undefFlags _ (by decide) (tame_setFlag _ _ rfl (tame_setFlag _ _ rfl (tame_setReg8 _ _ ?_)))
  split
  · exact tame_setReg8 _ _ (tame_setReg8 _ _ h)
  · exact h

theorem tame_aamFlags (h : Tame s t) : Tame s (aamFlags t) :=
  tame_undefFlags _ (by decide) (tame_setFlags (fun _ hi => szp_status _ _ hi) h)

theorem tame_callNear (v : Word) (h : Tame s t) : Tame s (callNear v t) := tame_setIp _ (tame_push16 _ h)
theorem tame_callFar (c v : Word) (h : Tame s t) : Tame s (callFar c v t) :=
  tame_farTo _ _ (tame_push16 _ (tame_push16 _ h))
theorem tame_returnNear (h : Tame s t) : Tame s (returnNear t) := tame_setIp _ (tame_pop16 h)
theorem tame_returnFar (h : Tame s t) : Tame s (returnFar t) := tame_farTo _ _ (tame_pop16 (tame_pop16 h))
theorem tame_dropStack (v : Word) (h : Tame s t) : Tame s (dropStack v t) := tame_setReg16 _ _ h
theorem tame_loopIf (c : Bool) (d : Byte) (h : Tame s t) : Tame s (loopIf c d t) := tame_jumpIf _ _ (tame_setReg16 _ _ h)
theorem tame_inByte (p : Word) (h : Tame s t) : Tame s (inByte p t) := tame_setReg8 _ _ (tame_ioIn8 _ h)
theorem tame_inWord (p : Word) (h : Tame s t) : Tame s (inWord p t) := tame_setReg16 _ _ (tame_ioIn16 _ h)

theorem tame_pushAll (h : Tame s t) : Tame s (pushAll t) :=
  tame_push16 _ (tame_push16 _ (tame_push16 _ (tame_push16 _ (tame_push16 _ (tame_push16 _ (tame_push16 _ (tame_push16 _ h)))))))

theorem tame_popAll (h : Tame s t) : Tame s (popAll t) :=
  tame_popLoc _ (tame_popLoc _ (tame_popLoc _ (tame_popLoc _ (tame_pop16 (tame_popLoc _ (tame_popLoc _ (tame_popLoc _ h)))))))

theorem tame_enterCopies (k : Nat) (h : Tame s t) : Tame s (enterCopies k t) := by
  induction k generalizing t with
  | zero => exact h
  | succ k ih => exact ih (tame_push16 _ (tame_memRead16 _ _ (tame_setReg16 _ _ h)))

theorem tame_enterFrame (size : Word) (level : Byte) (h : Tame s t) : Tame s (enterFrame size level t) := by
  refine tame_setReg16 _ _ (tame_setReg16 _ _ ?_)
  split
  · exact tame_push16 _ h
  · exact tame_push16 _ (tame_enterCopies _ (tame_push16 _ h))

theorem tame_leaveFrame (h : Tame s t) : Tame s (leaveFrame t) := tame_popLoc _ (tame_setReg16 _ _ h)

theorem tame_imulImm (g : Reg16) (e : RM Reg16) (k : Word) (h : Tame s t) : Tame s (imulImm g e k t) :=
  tame_undefFlags _ (by decide) (tame_setFlag _ _ rfl (tame_setFlag _ _ rfl (tame_setReg16 _ _ (tame_readLoc16 _ h))))

end ops

end Sys2Proof.Machine
end

