-- ==== Sys2Proof/Laws/PerInstr.lean ====
section
/-! SUPPORT. The family `EncodeLength`: the encoding of every instruction has one to six bytes (30_encoding.md R114), one
lemma for each constructor of `Instr`. -/

namespace Sys2Proof.Laws

theorem encMem_length (c : BitVec 3) (m : MemOp) : 1 ≤ (encMem c m).length ∧ (encMem c m).length ≤ 3 := by
  cases m <;> simp [encMem, encWord]

theorem encRM8_length (c : BitVec 3) (e : RM Reg8) : 1 ≤ (encRM8 c e).length ∧ (encRM8 c e).length ≤ 3 := by
  cases e
  · simp [encRM8]
  · exact encMem_length c _

theorem encRM16_length (c : BitVec 3) (e : RM Reg16) : 1 ≤ (encRM16 c e).length ∧ (encRM16 c e).length ≤ 3 := by
  cases e
  · simp [encRM16]
  · exact encMem_length c _

theorem encWord_length (w : Word) : (encWord w).length = 2 := rfl

namespace EncodeLength

/-- One to six bytes. -/
def Statement (i : Instr) : Prop := 1 ≤ (encode i).length ∧ (encode i).length ≤ 6

/-- An encoding of fixed length. -/
theorem fixed {i : Instr} (n : Nat) (h : (encode i).length = n + 1) (hn : n < 6) : Statement i := by
  unfold Statement
  omega

/-- An opcode byte and an operand that ends the instruction. -/
theorem operand {i : Instr} (op : Byte) {bs : List Byte} (h : 1 ≤ bs.length ∧ bs.length ≤ 3) (he : encode i = op :: bs) :
    Statement i := by
  unfold Statement
  rw [he, List.length_cons]
  omega

/-- An opcode byte, an operand and an immediate after it. -/
theorem operandThen {i : Instr} (op : Byte) {bs : List Byte} (tail : List Byte) (h : 1 ≤ bs.length ∧ bs.length ≤ 3)
    (he : encode i = op :: (bs ++ tail)) (ht : tail.length ≤ 2) : Statement i := by
  unfold Statement
  rw [he, List.length_cons, List.length_append]
  omega

theorem addEbGb (e : RM Reg8) (g : Reg8) : Statement (.addEbGb e g) := operand (0x00#8) (encRM8_length g.code e) rfl
theorem addEvGv (e : RM Reg16) (g : Reg16) : Statement (.addEvGv e g) := operand (0x01#8) (encRM16_length g.code e) rfl
theorem addGbEb (g : Reg8) (e : RM Reg8) : Statement (.addGbEb g e) := operand (0x02#8) (encRM8_length g.code e) rfl
theorem addGvEv (g : Reg16) (e : RM Reg16) : Statement (.addGvEv g e) := operand (0x03#8) (encRM16_length g.code e) rfl
theorem addAlIb (v : Byte) : Statement (.addAlIb v) := fixed 1 rfl (Nat.le_of_ble_eq_true rfl)
theorem addAxIw (v : Word) : Statement (.addAxIw v) := fixed 2 rfl (Nat.le_of_ble_eq_true rfl)
theorem orEbGb (e : RM Reg8) (g : Reg8) : Statement (.orEbGb e g) := operand (0x08#8) (encRM8_length g.code e) rfl
theorem orEvGv (e : RM Reg16) (g : Reg16) : Statement (.orEvGv e g) := operand (0x09#8) (encRM16_length g.code e) rfl
theorem orGbEb (g : Reg8) (e : RM Reg8) : Statement (.orGbEb g e) := operand (0x0A#8) (encRM8_length g.code e) rfl
theorem orGvEv (g : Reg16) (e : RM Reg16) : Statement (.orGvEv g e) := operand (0x0B#8) (encRM16_length g.code e) rfl
theorem orAlIb (v : Byte) : Statement (.orAlIb v) := fixed 1 rfl (Nat.le_of_ble_eq_true rfl)
theorem orAxIw (v : Word) : Statement (.orAxIw v) := fixed 2 rfl (Nat.le_of_ble_eq_true rfl)
theorem adcEbGb (e : RM Reg8) (g : Reg8) : Statement (.adcEbGb e g) := operand (0x10#8) (encRM8_length g.code e) rfl
theorem adcEvGv (e : RM Reg16) (g : Reg16) : Statement (.adcEvGv e g) := operand (0x11#8) (encRM16_length g.code e) rfl
theorem adcGbEb (g : Reg8) (e : RM Reg8) : Statement (.adcGbEb g e) := operand (0x12#8) (encRM8_length g.code e) rfl
theorem adcGvEv (g : Reg16) (e : RM Reg16) : Statement (.adcGvEv g e) := operand (0x13#8) (encRM16_length g.code e) rfl
theorem adcAlIb (v : Byte) : Statement (.adcAlIb v) := fixed 1 rfl (Nat.le_of_ble_eq_true rfl)
theorem adcAxIw (v : Word) : Statement (.adcAxIw v) := fixed 2 rfl (Nat.le_of_ble_eq_true rfl)
theorem sbbEbGb (e : RM Reg8) (g : Reg8) : Statement (.sbbEbGb e g) := operand (0x18#8) (encRM8_length g.code e) rfl
theorem sbbEvGv (e : RM Reg16) (g : Reg16) : Statement (.sbbEvGv e g) := operand (0x19#8) (encRM16_length g.code e) rfl
theorem sbbGbEb (g : Reg8) (e : RM Reg8) : Statement (.sbbGbEb g e) := operand (0x1A#8) (encRM8_length g.code e) rfl
theorem sbbGvEv (g : Reg16) (e : RM Reg16) : Statement (.sbbGvEv g e) := operand (0x1B#8) (encRM16_length g.code e) rfl
theorem sbbAlIb (v : Byte) : Statement (.sbbAlIb v) := fixed 1 rfl (Nat.le_of_ble_eq_true rfl)
theorem sbbAxIw (v : Word) : Statement (.sbbAxIw v) := fixed 2 rfl (Nat.le_of_ble_eq_true rfl)
theorem andEbGb (e : RM Reg8) (g : Reg8) : Statement (.andEbGb e g) := operand (0x20#8) (encRM8_length g.code e) rfl
theorem andEvGv (e : RM Reg16) (g : Reg16) : Statement (.andEvGv e g) := operand (0x21#8) (encRM16_length g.code e) rfl
theorem andGbEb (g : Reg8) (e : RM Reg8) : Statement (.andGbEb g e) := operand (0x22#8) (encRM8_length g.code e) rfl
theorem andGvEv (g : Reg16) (e : RM Reg16) : Statement (.andGvEv g e) := operand (0x23#8) (encRM16_length g.code e) rfl
theorem andAlIb (v : Byte) : Statement (.andAlIb v) := fixed 1 rfl (Nat.le_of_ble_eq_true rfl)
theorem andAxIw (v : Word) : Statement (.andAxIw v) := fixed 2 rfl (Nat.le_of_ble_eq_true rfl)
theorem subEbGb (e : RM Reg8) (g : Reg8) : Statement (.subEbGb e g) := operand (0x28#8) (encRM8_length g.code e) rfl
theorem subEvGv (e : RM Reg16) (g : Reg16) : Statement (.subEvGv e g) := operand (0x29#8) (encRM16_length g.code e) rfl
theorem subGbEb (g : Reg8) (e : RM Reg8) : Statement (.subGbEb g e) := operand (0x2A#8) (encRM8_length g.code e) rfl
theorem subGvEv (g : Reg16) (e : RM Reg16) : Statement (.subGvEv g e) := operand (0x2B#8) (encRM16_length g.code e) rfl
theorem subAlIb (v : Byte) : Statement (.subAlIb v) := fixed 1 rfl (Nat.le_of_ble_eq_true rfl)
theorem subAxIw (v : Word) : Statement (.subAxIw v) := fixed 2 rfl (Nat.le_of_ble_eq_true rfl)
theorem xorEbGb (e : RM Reg8) (g : Reg8) : Statement (.xorEbGb e g) := operand (0x30#8) (encRM8_length g.code e) rfl
theorem xorEvGv (e : RM Reg16) (g : Reg16) : Statement (.xorEvGv e g) := operand (0x31#8) (encRM16_length g.code e) rfl
theorem xorGbEb (g : Reg8) (e : RM Reg8) : Statement (.xorGbEb g e) := operand (0x32#8) (encRM8_length g.code e) rfl
theorem xorGvEv (g : Reg16) (e : RM Reg16) : Statement (.xorGvEv g e) := operand (0x33#8) (encRM16_length g.code e) rfl
theorem xorAlIb (v : Byte) : Statement (.xorAlIb v) := fixed 1 rfl (Nat.le_of_ble_eq_true rfl)
theorem xorAxIw (v : Word) : Statement (.xorAxIw v) := fixed 2 rfl (Nat.le_of_ble_eq_true rfl)
theorem cmpEbGb (e : RM Reg8) (g : Reg8) : Statement (.cmpEbGb e g) := operand (0x38#8) (encRM8_length g.code e) rfl
theorem cmpEvGv (e : RM Reg16) (g : Reg16) : Statement (.cmpEvGv e g) := operand (0x39#8) (encRM16_length g.code e) rfl
theorem cmpGbEb (g : Reg8) (e : RM Reg8) : Statement (.cmpGbEb g e) := operand (0x3A#8) (encRM8_length g.code e) rfl
theorem cmpGvEv (g : Reg16) (e : RM Reg16) : Statement (.cmpGvEv g e) := operand (0x3B#8) (encRM16_length g.code e) rfl
theorem cmpAlIb (v : Byte) : Statement (.cmpAlIb v) := fixed 1 rfl (Nat.le_of_ble_eq_true rfl)
theorem cmpAxIw (v : Word) : Statement (.cmpAxIw v) := fixed 2 rfl (Nat.le_of_ble_eq_true rfl)
theorem incR16 (r : Reg16) : Statement (.incR16 r) := fixed 0 rfl (Nat.le_of_ble_eq_true rfl)
theorem decR16 (r : Reg16) : Statement (.decR16 r) := fixed 0 rfl (Nat.le_of_ble_eq_true rfl)
theorem pushR16 (r : Reg16) : Statement (.pushR16 r) := fixed 0 rfl (Nat.le_of_ble_eq_true rfl)
theorem popR16 (r : Reg16) : Statement (.popR16 r) := fixed 0 rfl (Nat.le_of_ble_eq_true rfl)
theorem boundGvMa (g : Reg16) (m : MemOp) : Statement (.boundGvMa g m) := operand (0x62#8) (encMem_length g.code m) rfl
theorem pushIw (v : Word) : Statement (.pushIw v) := fixed 2 rfl (Nat.le_of_ble_eq_true rfl)
theorem imulGvEvIw (g : Reg16) (e : RM Reg16) (v : Word) : Statement (.imulGvEvIw g e v) := operandThen (0x69#8) (encWord v) (encRM16_length g.code e) rfl (Nat.le_of_ble_eq_true rfl)
theorem pushIbS (v : Byte) : Statement (.pushIbS v) := fixed 1 rfl (Nat.le_of_ble_eq_true rfl)
theorem imulGvEvIbS (g : Reg16) (e : RM Reg16) (v : Byte) : Statement (.imulGvEvIbS g e v) := operandThen (0x6B#8) ([v]) (encRM16_length g.code e) rfl (Nat.le_of_ble_eq_true rfl)
theorem joRel8 (d : Byte) : Statement (.joRel8 d) := fixed 1 rfl (Nat.le_of_ble_eq_true rfl)
theorem jnoRel8 (d : Byte) : Statement (.jnoRel8 d) := fixed 1 rfl (Nat.le_of_ble_eq_true rfl)
theorem jbRel8 (d : Byte) : Statement (.jbRel8 d) := fixed 1 rfl (Nat.le_of_ble_eq_true rfl)
theorem jaeRel8 (d : Byte) : Statement (.jaeRel8 d) := fixed 1 rfl (Nat.le_of_ble_eq_true rfl)
theorem jeRel8 (d : Byte) : Statement (.jeRel8 d) := fixed 1 rfl (Nat.le_of_ble_eq_true rfl)
theorem jneRel8 (d : Byte) : Statement (.jneRel8 d) := fixed 1 rfl (Nat.le_of_ble_eq_true rfl)
theorem jbeRel8 (d : Byte) : Statement (.jbeRel8 d) := fixed 1 rfl (Nat.le_of_ble_eq_true rfl)
theorem jaRel8 (d : Byte) : Statement (.jaRel8 d) := fixed 1 rfl (Nat.le_of_ble_eq_true rfl)
theorem jsRel8 (d : Byte) : Statement (.jsRel8 d) := fixed 1 rfl (Nat.le_of_ble_eq_true rfl)
theorem jnsRel8 (d : Byte) : Statement (.jnsRel8 d) := fixed 1 rfl (Nat.le_of_ble_eq_true rfl)
theorem jpRel8 (d : Byte) : Statement (.jpRel8 d) := fixed 1 rfl (Nat.le_of_ble_eq_true rfl)
theorem jnpRel8 (d : Byte) : Statement (.jnpRel8 d) := fixed 1 rfl (Nat.le_of_ble_eq_true rfl)
theorem jlRel8 (d : Byte) : Statement (.jlRel8 d) := fixed 1 rfl (Nat.le_of_ble_eq_true rfl)
theorem jgeRel8 (d : Byte) : Statement (.jgeRel8 d) := fixed 1 rfl (Nat.le_of_ble_eq_true rfl)
theorem jleRel8 (d : Byte) : Statement (.jleRel8 d) := fixed 1 rfl (Nat.le_of_ble_eq_true rfl)
theorem jgRel8 (d : Byte) : Statement (.jgRel8 d) := fixed 1 rfl (Nat.le_of_ble_eq_true rfl)
theorem addEbIb (e : RM Reg8) (v : Byte) : Statement (.addEbIb e v) := operandThen (0x80#8) ([v]) (encRM8_length 0#3 e) rfl (Nat.le_of_ble_eq_true rfl)
theorem orEbIb (e : RM Reg8) (v : Byte) : Statement (.orEbIb e v) := operandThen (0x80#8) ([v]) (encRM8_length 1#3 e) rfl (Nat.le_of_ble_eq_true rfl)
theorem adcEbIb (e : RM Reg8) (v : Byte) : Statement (.adcEbIb e v) := operandThen (0x80#8) ([v]) (encRM8_length 2#3 e) rfl (Nat.le_of_ble_eq_true rfl)
theorem sbbEbIb (e : RM Reg8) (v : Byte) : Statement (.sbbEbIb e v) := operandThen (0x80#8) ([v]) (encRM8_length 3#3 e) rfl (Nat.le_of_ble_eq_true rfl)
theorem andEbIb (e : RM Reg8) (v : Byte) : Statement (.andEbIb e v) := operandThen (0x80#8) ([v]) (encRM8_length 4#3 e) rfl (Nat.le_of_ble_eq_true rfl)
theorem subEbIb (e : RM Reg8) (v : Byte) : Statement (.subEbIb e v) := operandThen (0x80#8) ([v]) (encRM8_length 5#3 e) rfl (Nat.le_of_ble_eq_true rfl)
theorem xorEbIb (e : RM Reg8) (v : Byte) : Statement (.xorEbIb e v) := operandThen (0x80#8) ([v]) (encRM8_length 6#3 e) rfl (Nat.le_of_ble_eq_true rfl)
theorem cmpEbIb (e : RM Reg8) (v : Byte) : Statement (.cmpEbIb e v) := operandThen (0x80#8) ([v]) (encRM8_length 7#3 e) rfl (Nat.le_of_ble_eq_true rfl)
theorem addEvIw (e : RM Reg16) (v : Word) : Statement (.addEvIw e v) := operandThen (0x81#8) (encWord v) (encRM16_length 0#3 e) rfl (Nat.le_of_ble_eq_true rfl)
theorem orEvIw (e : RM Reg16) (v : Word) : Statement (.orEvIw e v) := operandThen (0x81#8) (encWord v) (encRM16_length 1#3 e) rfl (Nat.le_of_ble_eq_true rfl)
theorem adcEvIw (e : RM Reg16) (v : Word) : Statement (.adcEvIw e v) := operandThen (0x81#8) (encWord v) (encRM16_length 2#3 e) rfl (Nat.le_of_ble_eq_true rfl)
theorem sbbEvIw (e : RM Reg16) (v : Word) : Statement (.sbbEvIw e v) := operandThen (0x81#8) (encWord v) (encRM16_length 3#3 e) rfl (Nat.le_of_ble_eq_true rfl)
theorem andEvIw (e : RM Reg16) (v : Word) : Statement (.andEvIw e v) := operandThen (0x81#8) (encWord v) (encRM16_length 4#3 e) rfl (Nat.le_of_ble_eq_true rfl)
theorem subEvIw (e : RM Reg16) (v : Word) : Statement (.subEvIw e v) := operandThen (0x81#8) (encWord v) (encRM16_length 5#3 e) rfl (Nat.le_of_ble_eq_true rfl)
theorem xorEvIw (e : RM Reg16) (v : Word) : Statement (.xorEvIw e v) := operandThen (0x81#8) (encWord v) (encRM16_length 6#3 e) rfl (Nat.le_of_ble_eq_true rfl)
theorem cmpEvIw (e : RM Reg16) (v : Word) : Statement (.cmpEvIw e v) := operandThen (0x81#8) (encWord v) (encRM16_length 7#3 e) rfl (Nat.le_of_ble_eq_true rfl)
theorem addEbIb82 (e : RM Reg8) (v : Byte) : Statement (.addEbIb82 e v) := operandThen (0x82#8) ([v]) (encRM8_length 0#3 e) rfl (Nat.le_of_ble_eq_true rfl)
theorem orEbIb82 (e : RM Reg8) (v : Byte) : Statement (.orEbIb82 e v) := operandThen (0x82#8) ([v]) (encRM8_length 1#3 e) rfl (Nat.le_of_ble_eq_true rfl)
theorem adcEbIb82 (e : RM Reg8) (v : Byte) : Statement (.adcEbIb82 e v) := operandThen (0x82#8) ([v]) (encRM8_length 2#3 e) rfl (Nat.le_of_ble_eq_true rfl)
theorem sbbEbIb82 (e : RM Reg8) (v : Byte) : Statement (.sbbEbIb82 e v) := operandThen (0x82#8) ([v]) (encRM8_length 3#3 e) rfl (Nat.le_of_ble_eq_true rfl)
theorem andEbIb82 (e : RM Reg8) (v : Byte) : Statement (.andEbIb82 e v) := operandThen (0x82#8) ([v]) (encRM8_length 4#3 e) rfl (Nat.le_of_ble_eq_true rfl)
theorem subEbIb82 (e : RM Reg8) (v : Byte) : Statement (.subEbIb82 e v) := operandThen (0x82#8) ([v]) (encRM8_length 5#3 e) rfl (Nat.le_of_ble_eq_true rfl)
theorem xorEbIb82 (e : RM Reg8) (v : Byte) : Statement (.xorEbIb82 e v) := operandThen (0x82#8) ([v]) (encRM8_length 6#3 e) rfl (Nat.le_of_ble_eq_true rfl)
theorem cmpEbIb82 (e : RM Reg8) (v : Byte) : Statement (.cmpEbIb82 e v) := operandThen (0x82#8) ([v]) (encRM8_length 7#3 e) rfl (Nat.le_of_ble_eq_true rfl)
theorem addEvIbS (e : RM Reg16) (v : Byte) : Statement (.addEvIbS e v) := operandThen (0x83#8) ([v]) (encRM16_length 0#3 e) rfl (Nat.le_of_ble_eq_true rfl)
theorem orEvIbS (e : RM Reg16) (v : Byte) : Statement (.orEvIbS e v) := operandThen (0x83#8) ([v]) (encRM16_length 1#3 e) rfl (Nat.le_of_ble_eq_true rfl)
theorem adcEvIbS (e : RM Reg16) (v : Byte) : Statement (.adcEvIbS e v) := operandThen (0x83#8) ([v]) (encRM16_length 2#3 e) rfl (Nat.le_of_ble_eq_true rfl)
theorem sbbEvIbS (e : RM Reg16) (v : Byte) : Statement (.sbbEvIbS e v) := operandThen (0x83#8) ([v]) (encRM16_length 3#3 e) rfl (Nat.le_of_ble_eq_true rfl)
theorem andEvIbS (e : RM Reg16) (v : Byte) : Statement (.andEvIbS e v) := operandThen (0x83#8) ([v]) (encRM16_length 4#3 e) rfl (Nat.le_of_ble_eq_true rfl)
theorem subEvIbS (e : RM Reg16) (v : Byte) : Statement (.subEvIbS e v) := operandThen (0x83#8) ([v]) (encRM16_length 5#3 e) rfl (Nat.le_of_ble_eq_true rfl)
theorem xorEvIbS (e : RM Reg16) (v : Byte) : Statement (.xorEvIbS e v) := operandThen (0x83#8) ([v]) (encRM16_length 6#3 e) rfl (Nat.le_of_ble_eq_true rfl)
theorem cmpEvIbS (e : RM Reg16) (v : Byte) : Statement (.cmpEvIbS e v) := operandThen (0x83#8) ([v]) (encRM16_length 7#3 e) rfl (Nat.le_of_ble_eq_true rfl)
theorem testEbGb (e : RM Reg8) (g : Reg8) : Statement (.testEbGb e g) := operand (0x84#8) (encRM8_length g.code e) rfl
theorem testEvGv (e : RM Reg16) (g : Reg16) : Statement (.testEvGv e g) := operand (0x85#8) (encRM16_length g.code e) rfl
theorem xchgEbGb (e : RM Reg8) (g : Reg8) : Statement (.xchgEbGb e g) := operand (0x86#8) (encRM8_length g.code e) rfl
theorem xchgEvGv (e : RM Reg16) (g : Reg16) : Statement (.xchgEvGv e g) := operand (0x87#8) (encRM16_length g.code e) rfl
theorem movEbGb (e : RM Reg8) (g : Reg8) : Statement (.movEbGb e g) := operand (0x88#8) (encRM8_length g.code e) rfl
theorem movEvGv (e : RM Reg16) (g : Reg16) : Statement (.movEvGv e g) := operand (0x89#8) (encRM16_length g.code e) rfl
theorem movGbEb (g : Reg8) (e : RM Reg8) : Statement (.movGbEb g e) := operand (0x8A#8) (encRM8_length g.code e) rfl
theorem movGvEv (g : Reg16) (e : RM Reg16) : Statement (.movGvEv g e) := operand (0x8B#8) (encRM16_length g.code e) rfl
theorem movEwEs (e : RM Reg16) : Statement (.movEwEs e) := operand (0x8C#8) (encRM16_length 0#3 e) rfl
theorem movEwCs (e : RM Reg16) : Statement (.movEwCs e) := operand (0x8C#8) (encRM16_length 1#3 e) rfl
theorem movEwSs (e : RM Reg16) : Statement (.movEwSs e) := operand (0x8C#8) (encRM16_length 2#3 e) rfl
theorem movEwDs (e : RM Reg16) : Statement (.movEwDs e) := operand (0x8C#8) (encRM16_length 3#3 e) rfl
theorem leaGvM (g : Reg16) (m : MemOp) : Statement (.leaGvM g m) := operand (0x8D#8) (encMem_length g.code m) rfl
theorem movEsEw (e : RM Reg16) : Statement (.movEsEw e) := operand (0x8E#8) (encRM16_length 0#3 e) rfl
theorem movSsEw (e : RM Reg16) : Statement (.movSsEw e) := operand (0x8E#8) (encRM16_length 2#3 e) rfl
theorem movDsEw (e : RM Reg16) : Statement (.movDsEw e) := operand (0x8E#8) (encRM16_length 3#3 e) rfl
theorem popEv (e : RM Reg16) : Statement (.popEv e) := operand (0x8F#8) (encRM16_length 0#3 e) rfl
theorem xchgAxR16 (r : Reg16) : Statement (.xchgAxR16 r) := fixed 0 rfl (Nat.le_of_ble_eq_true rfl)
theorem callPtr (off : Word) (seg : Word) : Statement (.callPtr off seg) := fixed 4 rfl (Nat.le_of_ble_eq_true rfl)
theorem movAlOb (a : Word) : Statement (.movAlOb a) := fixed 2 rfl (Nat.le_of_ble_eq_true rfl)
theorem movAxOv (a : Word) : Statement (.movAxOv a) := fixed 2 rfl (Nat.le_of_ble_eq_true rfl)
theorem movObAl (a : Word) : Statement (.movObAl a) := fixed 2 rfl (Nat.le_of_ble_eq_true rfl)
theorem movOvAx (a : Word) : Statement (.movOvAx a) := fixed 2 rfl (Nat.le_of_ble_eq_true rfl)
theorem testAlIb (v : Byte) : Statement (.testAlIb v) := fixed 1 rfl (Nat.le_of_ble_eq_true rfl)
theorem testAxIw (v : Word) : Statement (.testAxIw v) := fixed 2 rfl (Nat.le_of_ble_eq_true rfl)
theorem movR8Ib (r : Reg8) (v : Byte) : Statement (.movR8Ib r v) := fixed 1 rfl (Nat.le_of_ble_eq_true rfl)
theorem movR16Iw (r : Reg16) (v : Word) : Statement (.movR16Iw r v) := fixed 2 rfl (Nat.le_of_ble_eq_true rfl)
theorem rolEbIb (e : RM Reg8) (v : Byte) : Statement (.rolEbIb e v) := operandThen (0xC0#8) ([v]) (encRM8_length 0#3 e) rfl (Nat.le_of_ble_eq_true rfl)
theorem rorEbIb (e : RM Reg8) (v : Byte) : Statement (.rorEbIb e v) := operandThen (0xC0#8) ([v]) (encRM8_length 1#3 e) rfl (Nat.le_of_ble_eq_true rfl)
theorem rclEbIb (e : RM Reg8) (v : Byte) : Statement (.rclEbIb e v) := operandThen (0xC0#8) ([v]) (encRM8_length 2#3 e) rfl (Nat.le_of_ble_eq_true rfl)
theorem rcrEbIb (e : RM Reg8) (v : Byte) : Statement (.rcrEbIb e v) := operandThen (0xC0#8) ([v]) (encRM8_length 3#3 e) rfl (Nat.le_of_ble_eq_true rfl)
theorem shlEbIb (e : RM Reg8) (v : Byte) : Statement (.shlEbIb e v) := operandThen (0xC0#8) ([v]) (encRM8_length 4#3 e) rfl (Nat.le_of_ble_eq_true rfl)
theorem shrEbIb (e : RM Reg8) (v : Byte) : Statement (.shrEbIb e v) := operandThen (0xC0#8) ([v]) (encRM8_length 5#3 e) rfl (Nat.le_of_ble_eq_true rfl)
theorem sarEbIb (e : RM Reg8) (v : Byte) : Statement (.sarEbIb e v) := operandThen (0xC0#8) ([v]) (encRM8_length 7#3 e) rfl (Nat.le_of_ble_eq_true rfl)
theorem rolEvIb (e : RM Reg16) (v : Byte) : Statement (.rolEvIb e v) := operandThen (0xC1#8) ([v]) (encRM16_length 0#3 e) rfl (Nat.le_of_ble_eq_true rfl)
theorem rorEvIb (e : RM Reg16) (v : Byte) : Statement (.rorEvIb e v) := operandThen (0xC1#8) ([v]) (encRM16_length 1#3 e) rfl (Nat.le_of_ble_eq_true rfl)
theorem rclEvIb (e : RM Reg16) (v : Byte) : Statement (.rclEvIb e v) := operandThen (0xC1#8) ([v]) (encRM16_length 2#3 e) rfl (Nat.le_of_ble_eq_true rfl)
theorem rcrEvIb (e : RM Reg16) (v : Byte) : Statement (.rcrEvIb e v) := operandThen (0xC1#8) ([v]) (encRM16_length 3#3 e) rfl (Nat.le_of_ble_eq_true rfl)
theorem shlEvIb (e : RM Reg16) (v : Byte) : Statement (.shlEvIb e v) := operandThen (0xC1#8) ([v]) (encRM16_length 4#3 e) rfl (Nat.le_of_ble_eq_true rfl)
theorem shrEvIb (e : RM Reg16) (v : Byte) : Statement (.shrEvIb e v) := operandThen (0xC1#8) ([v]) (encRM16_length 5#3 e) rfl (Nat.le_of_ble_eq_true rfl)
theorem sarEvIb (e : RM Reg16) (v : Byte) : Statement (.sarEvIb e v) := operandThen (0xC1#8) ([v]) (encRM16_length 7#3 e) rfl (Nat.le_of_ble_eq_true rfl)
theorem rolEb1 (e : RM Reg8) : Statement (.rolEb1 e) := operand (0xD0#8) (encRM8_length 0#3 e) rfl
theorem rorEb1 (e : RM Reg8) : Statement (.rorEb1 e) := operand (0xD0#8) (encRM8_length 1#3 e) rfl
theorem rclEb1 (e : RM Reg8) : Statement (.rclEb1 e) := operand (0xD0#8) (encRM8_length 2#3 e) rfl
theorem rcrEb1 (e : RM Reg8) : Statement (.rcrEb1 e) := operand (0xD0#8) (encRM8_length 3#3 e) rfl
theorem shlEb1 (e : RM Reg8) : Statement (.shlEb1 e) := operand (0xD0#8) (encRM8_length 4#3 e) rfl
theorem shrEb1 (e : RM Reg8) : Statement (.shrEb1 e) := operand (0xD0#8) (encRM8_length 5#3 e) rfl
theorem sarEb1 (e : RM Reg8) : Statement (.sarEb1 e) := operand (0xD0#8) (encRM8_length 7#3 e) rfl
theorem rolEv1 (e : RM Reg16) : Statement (.rolEv1 e) := operand (0xD1#8) (encRM16_length 0#3 e) rfl
theorem rorEv1 (e : RM Reg16) : Statement (.rorEv1 e) := operand (0xD1#8) (encRM16_length 1#3 e) rfl
theorem rclEv1 (e : RM Reg16) : Statement (.rclEv1 e) := operand (0xD1#8) (encRM16_length 2#3 e) rfl
theorem rcrEv1 (e : RM Reg16) : Statement (.rcrEv1 e) := operand (0xD1#8) (encRM16_length 3#3 e) rfl
theorem shlEv1 (e : RM Reg16) : Statement (.shlEv1 e) := operand (0xD1#8) (encRM16_length 4#3 e) rfl
theorem shrEv1 (e : RM Reg16) : Statement (.shrEv1 e) := operand (0xD1#8) (encRM16_length 5#3 e) rfl
theorem sarEv1 (e : RM Reg16) : Statement (.sarEv1 e) := operand (0xD1#8) (encRM16_length 7#3 e) rfl
theorem rolEbCl (e : RM Reg8) : Statement (.rolEbCl e) := operand (0xD2#8) (encRM8_length 0#3 e) rfl
theorem rorEbCl (e : RM Reg8) : Statement (.rorEbCl e) := operand (0xD2#8) (encRM8_length 1#3 e) rfl
theorem rclEbCl (e : RM Reg8) : Statement (.rclEbCl e) := operand (0xD2#8) (encRM8_length 2#3 e) rfl
theorem rcrEbCl (e : RM Reg8) : Statement (.rcrEbCl e) := operand (0xD2#8) (encRM8_length 3#3 e) rfl
theorem shlEbCl (e : RM Reg8) : Statement (.shlEbCl e) := operand (0xD2#8) (encRM8_length 4#3 e) rfl
theorem shrEbCl (e : RM Reg8) : Statement (.shrEbCl e) := operand (0xD2#8) (encRM8_length 5#3 e) rfl
theorem sarEbCl (e : RM Reg8) : Statement (.sarEbCl e) := operand (0xD2#8) (encRM8_length 7#3 e) rfl
theorem rolEvCl (e : RM Reg16) : Statement (.rolEvCl e) := operand (0xD3#8) (encRM16_length 0#3 e) rfl
theorem rorEvCl (e : RM Reg16) : Statement (.rorEvCl e) := operand (0xD3#8) (encRM16_length 1#3 e) rfl
theorem rclEvCl (e : RM Reg16) : Statement (.rclEvCl e) := operand (0xD3#8) (encRM16_length 2#3 e) rfl
theorem rcrEvCl (e : RM Reg16) : Statement (.rcrEvCl e) := operand (0xD3#8) (encRM16_length 3#3 e) rfl
theorem shlEvCl (e : RM Reg16) : Statement (.shlEvCl e) := operand (0xD3#8) (encRM16_length 4#3 e) rfl
theorem shrEvCl (e : RM Reg16) : Statement (.shrEvCl e) := operand (0xD3#8) (encRM16_length 5#3 e) rfl
theorem sarEvCl (e : RM Reg16) : Statement (.sarEvCl e) := operand (0xD3#8) (encRM16_length 7#3 e) rfl
theorem retIw (v : Word) : Statement (.retIw v) := fixed 2 rfl (Nat.le_of_ble_eq_true rfl)
theorem lesGvMp (g : Reg16) (m : MemOp) : Statement (.lesGvMp g m) := operand (0xC4#8) (encMem_length g.code m) rfl
theorem ldsGvMp (g : Reg16) (m : MemOp) : Statement (.ldsGvMp g m) := operand (0xC5#8) (encMem_length g.code m) rfl
theorem retfIw (v : Word) : Statement (.retfIw v) := fixed 2 rfl (Nat.le_of_ble_eq_true rfl)
theorem intIb (v : Byte) : Statement (.intIb v) := fixed 1 rfl (Nat.le_of_ble_eq_true rfl)
theorem aamIb (v : Byte) : Statement (.aamIb v) := fixed 1 rfl (Nat.le_of_ble_eq_true rfl)
theorem aadIb (v : Byte) : Statement (.aadIb v) := fixed 1 rfl (Nat.le_of_ble_eq_true rfl)
theorem movEbIb (e : RM Reg8) (v : Byte) : Statement (.movEbIb e v) := operandThen (0xC6#8) ([v]) (encRM8_length 0#3 e) rfl (Nat.le_of_ble_eq_true rfl)
theorem movEvIw (e : RM Reg16) (v : Word) : Statement (.movEvIw e v) := operandThen (0xC7#8) (encWord v) (encRM16_length 0#3 e) rfl (Nat.le_of_ble_eq_true rfl)
theorem enterIwIb (size : Word) (level : Byte) : Statement (.enterIwIb size level) := fixed 3 rfl (Nat.le_of_ble_eq_true rfl)
theorem esc (x : BitVec 3) (g : BitVec 3) (e : RM Reg16) : Statement (.esc x g e) := operand (opPlus 0xD8#8 x) (encRM16_length g e) rfl
theorem loopneRel8 (d : Byte) : Statement (.loopneRel8 d) := fixed 1 rfl (Nat.le_of_ble_eq_true rfl)
theorem loopeRel8 (d : Byte) : Statement (.loopeRel8 d) := fixed 1 rfl (Nat.le_of_ble_eq_true rfl)
theorem loopRel8 (d : Byte) : Statement (.loopRel8 d) := fixed 1 rfl (Nat.le_of_ble_eq_true rfl)
theorem jcxzRel8 (d : Byte) : Statement (.jcxzRel8 d) := fixed 1 rfl (Nat.le_of_ble_eq_true rfl)
theorem inAlIb (v : Byte) : Statement (.inAlIb v) := fixed 1 rfl (Nat.le_of_ble_eq_true rfl)
theorem inAxIb (v : Byte) : Statement (.inAxIb v) := fixed 1 rfl (Nat.le_of_ble_eq_true rfl)
theorem outIbAl (p : Byte) : Statement (.outIbAl p) := fixed 1 rfl (Nat.le_of_ble_eq_true rfl)
theorem outIbAx (p : Byte) : Statement (.outIbAx p) := fixed 1 rfl (Nat.le_of_ble_eq_true rfl)
theorem callRel16 (d : Word) : Statement (.callRel16 d) := fixed 2 rfl (Nat.le_of_ble_eq_true rfl)
theorem jmpRel16 (d : Word) : Statement (.jmpRel16 d) := fixed 2 rfl (Nat.le_of_ble_eq_true rfl)
theorem jmpPtr (off : Word) (seg : Word) : Statement (.jmpPtr off seg) := fixed 4 rfl (Nat.le_of_ble_eq_true rfl)
theorem jmpRel8 (d : Byte) : Statement (.jmpRel8 d) := fixed 1 rfl (Nat.le_of_ble_eq_true rfl)
theorem testEbIb (e : RM Reg8) (v : Byte) : Statement (.testEbIb e v) := operandThen (0xF6#8) ([v]) (encRM8_length 0#3 e) rfl (Nat.le_of_ble_eq_true rfl)
theorem notEb (e : RM Reg8) : Statement (.notEb e) := operand (0xF6#8) (encRM8_length 2#3 e) rfl
theorem negEb (e : RM Reg8) : Statement (.negEb e) := operand (0xF6#8) (encRM8_length 3#3 e) rfl
theorem mulEb (e : RM Reg8) : Statement (.mulEb e) := operand (0xF6#8) (encRM8_length 4#3 e) rfl
theorem imulEb (e : RM Reg8) : Statement (.imulEb e) := operand (0xF6#8) (encRM8_length 5#3 e) rfl
theorem divEb (e : RM Reg8) : Statement (.divEb e) := operand (0xF6#8) (encRM8_length 6#3 e) rfl
theorem idivEb (e : RM Reg8) : Statement (.idivEb e) := operand (0xF6#8) (encRM8_length 7#3 e) rfl
theorem testEvIw (e : RM Reg16) (v : Word) : Statement (.testEvIw e v) := operandThen (0xF7#8) (encWord v) (encRM16_length 0#3 e) rfl (Nat.le_of_ble_eq_true rfl)
theorem notEv (e : RM Reg16) : Statement (.notEv e) := operand (0xF7#8) (encRM16_length 2#3 e) rfl
theorem negEv (e : RM Reg16) : Statement (.negEv e) := operand (0xF7#8) (encRM16_length 3#3 e) rfl
theorem mulEv (e : RM Reg16) : Statement (.mulEv e) := operand (0xF7#8) (encRM16_length 4#3 e) rfl
theorem imulEv (e : RM Reg16) : Statement (.imulEv e) := operand (0xF7#8) (encRM16_length 5#3 e) rfl
theorem divEv (e : RM Reg16) : Statement (.divEv e) := operand (0xF7#8) (encRM16_length 6#3 e) rfl
theorem idivEv (e : RM Reg16) : Statement (.idivEv e) := operand (0xF7#8) (encRM16_length 7#3 e) rfl
theorem incEb (e : RM Reg8) : Statement (.incEb e) := operand (0xFE#8) (encRM8_length 0#3 e) rfl
theorem decEb (e : RM Reg8) : Statement (.decEb e) := operand (0xFE#8) (encRM8_length 1#3 e) rfl
theorem incEv (e : RM Reg16) : Statement (.incEv e) := operand (0xFF#8) (encRM16_length 0#3 e) rfl
theorem decEv (e : RM Reg16) : Statement (.decEv e) := operand (0xFF#8) (encRM16_length 1#3 e) rfl
theorem callEv (e : RM Reg16) : Statement (.callEv e) := operand (0xFF#8) (encRM16_length 2#3 e) rfl
theorem callMpFar (m : MemOp) : Statement (.callMpFar m) := operand (0xFF#8) (encMem_length 3#3 m) rfl
theorem jmpEv (e : RM Reg16) : Statement (.jmpEv e) := operand (0xFF#8) (encRM16_length 4#3 e) rfl
theorem jmpMpFar (m : MemOp) : Statement (.jmpMpFar m) := operand (0xFF#8) (encMem_length 5#3 m) rfl
theorem pushEv (e : RM Reg16) : Statement (.pushEv e) := operand (0xFF#8) (encRM16_length 6#3 e) rfl
theorem pushEs : Statement (.pushEs) := fixed 0 rfl (Nat.le_of_ble_eq_true rfl)
theorem pushCs : Statement (.pushCs) := fixed 0 rfl (Nat.le_of_ble_eq_true rfl)
theorem pushSs : Statement (.pushSs) := fixed 0 rfl (Nat.le_of_ble_eq_true rfl)
theorem pushDs : Statement (.pushDs) := fixed 0 rfl (Nat.le_of_ble_eq_true rfl)
theorem popEs : Statement (.popEs) := fixed 0 rfl (Nat.le_of_ble_eq_true rfl)
theorem popSs : Statement (.popSs) := fixed 0 rfl (Nat.le_of_ble_eq_true rfl)
theorem popDs : Statement (.popDs) := fixed 0 rfl (Nat.le_of_ble_eq_true rfl)
theorem prefixEs : Statement (.prefixEs) := fixed 0 rfl (Nat.le_of_ble_eq_true rfl)
theorem prefixCs : Statement (.prefixCs) := fixed 0 rfl (Nat.le_of_ble_eq_true rfl)
theorem prefixSs : Statement (.prefixSs) := fixed 0 rfl (Nat.le_of_ble_eq_true rfl)
theorem prefixDs : Statement (.prefixDs) := fixed 0 rfl (Nat.le_of_ble_eq_true rfl)
theorem prefixLock : Statement (.prefixLock) := fixed 0 rfl (Nat.le_of_ble_eq_true rfl)
theorem prefixRepne : Statement (.prefixRepne) := fixed 0 rfl (Nat.le_of_ble_eq_true rfl)
theorem prefixRep : Statement (.prefixRep) := fixed 0 rfl (Nat.le_of_ble_eq_true rfl)
theorem daa : Statement (.daa) := fixed 0 rfl (Nat.le_of_ble_eq_true rfl)
theorem das : Statement (.das) := fixed 0 rfl (Nat.le_of_ble_eq_true rfl)
theorem aaa : Statement (.aaa) := fixed 0 rfl (Nat.le_of_ble_eq_true rfl)
theorem aas : Statement (.aas) := fixed 0 rfl (Nat.le_of_ble_eq_true rfl)
theorem pusha : Statement (.pusha) := fixed 0 rfl (Nat.le_of_ble_eq_true rfl)
theorem popa : Statement (.popa) := fixed 0 rfl (Nat.le_of_ble_eq_true rfl)
theorem insb : Statement (.insb) := fixed 0 rfl (Nat.le_of_ble_eq_true rfl)
theorem insw : Statement (.insw) := fixed 0 rfl (Nat.le_of_ble_eq_true rfl)
theorem outsb : Statement (.outsb) := fixed 0 rfl (Nat.le_of_ble_eq_true rfl)
theorem outsw : Statement (.outsw) := fixed 0 rfl (Nat.le_of_ble_eq_true rfl)
theorem nop : Statement (.nop) := fixed 0 rfl (Nat.le_of_ble_eq_true rfl)
theorem cbw : Statement (.cbw) := fixed 0 rfl (Nat.le_of_ble_eq_true rfl)
theorem cwd : Statement (.cwd) := fixed 0 rfl (Nat.le_of_ble_eq_true rfl)
theorem wait : Statement (.wait) := fixed 0 rfl (Nat.le_of_ble_eq_true rfl)
theorem pushf : Statement (.pushf) := fixed 0 rfl (Nat.le_of_ble_eq_true rfl)
theorem popf : Statement (.popf) := fixed 0 rfl (Nat.le_of_ble_eq_true rfl)
theorem sahf : Statement (.sahf) := fixed 0 rfl (Nat.le_of_ble_eq_true rfl)
theorem lahf : Statement (.lahf) := fixed 0 rfl (Nat.le_of_ble_eq_true rfl)
theorem movsb : Statement (.movsb) := fixed 0 rfl (Nat.le_of_ble_eq_true rfl)
theorem movsw : Statement (.movsw) := fixed 0 rfl (Nat.le_of_ble_eq_true rfl)
theorem cmpsb : Statement (.cmpsb) := fixed 0 rfl (Nat.le_of_ble_eq_true rfl)
theorem cmpsw : Statement (.cmpsw) := fixed 0 rfl (Nat.le_of_ble_eq_true rfl)
theorem stosb : Statement (.stosb) := fixed 0 rfl (Nat.le_of_ble_eq_true rfl)
theorem stosw : Statement (.stosw) := fixed 0 rfl (Nat.le_of_ble_eq_true rfl)
theorem lodsb : Statement (.lodsb) := fixed 0 rfl (Nat.le_of_ble_eq_true rfl)
theorem lodsw : Statement (.lodsw) := fixed 0 rfl (Nat.le_of_ble_eq_true rfl)
theorem scasb : Statement (.scasb) := fixed 0 rfl (Nat.le_of_ble_eq_true rfl)
theorem scasw : Statement (.scasw) := fixed 0 rfl (Nat.le_of_ble_eq_true rfl)
theorem ret : Statement (.ret) := fixed 0 rfl (Nat.le_of_ble_eq_true rfl)
theorem retf : Statement (.retf) := fixed 0 rfl (Nat.le_of_ble_eq_true rfl)
theorem int3 : Statement (.int3) := fixed 0 rfl (Nat.le_of_ble_eq_true rfl)
theorem into : Statement (.into) := fixed 0 rfl (Nat.le_of_ble_eq_true rfl)
theorem iret : Statement (.iret) := fixed 0 rfl (Nat.le_of_ble_eq_true rfl)
theorem xlat : Statement (.xlat) := fixed 0 rfl (Nat.le_of_ble_eq_true rfl)
theorem leave : Statement (.leave) := fixed 0 rfl (Nat.le_of_ble_eq_true rfl)
theorem inAlDx : Statement (.inAlDx) := fixed 0 rfl (Nat.le_of_ble_eq_true rfl)
theorem inAxDx : Statement (.inAxDx) := fixed 0 rfl (Nat.le_of_ble_eq_true rfl)
theorem outDxAl : Statement (.outDxAl) := fixed 0 rfl (Nat.le_of_ble_eq_true rfl)
theorem outDxAx : Statement (.outDxAx) := fixed 0 rfl (Nat.le_of_ble_eq_true rfl)
theorem hlt : Statement (.hlt) := fixed 0 rfl (Nat.le_of_ble_eq_true rfl)
theorem cmc : Statement (.cmc) := fixed 0 rfl (Nat.le_of_ble_eq_true rfl)
theorem clc : Statement (.clc) := fixed 0 rfl (Nat.le_of_ble_eq_true rfl)
theorem stc : Statement (.stc) := fixed 0 rfl (Nat.le_of_ble_eq_true rfl)
theorem cli : Statement (.cli) := fixed 0 rfl (Nat.le_of_ble_eq_true rfl)
theorem sti : Statement (.sti) := fixed 0 rfl (Nat.le_of_ble_eq_true rfl)
theorem cld : Statement (.cld) := fixed 0 rfl (Nat.le_of_ble_eq_true rfl)
theorem std : Statement (.std) := fixed 0 rfl (Nat.le_of_ble_eq_true rfl)
theorem illegal0F : Statement (.illegal0F) := fixed 0 rfl (Nat.le_of_ble_eq_true rfl)
theorem illegalI8088x60 : Statement (.illegalI8088x60) := fixed 0 rfl (Nat.le_of_ble_eq_true rfl)
theorem illegalI8088x61 : Statement (.illegalI8088x61) := fixed 0 rfl (Nat.le_of_ble_eq_true rfl)
theorem illegalI8088x62 : Statement (.illegalI8088x62) := fixed 0 rfl (Nat.le_of_ble_eq_true rfl)
theorem illegalI8088x68 : Statement (.illegalI8088x68) := fixed 0 rfl (Nat.le_of_ble_eq_true rfl)
theorem illegalI8088x69 : Statement (.illegalI8088x69) := fixed 0 rfl (Nat.le_of_ble_eq_true rfl)
theorem illegalI8088x6A : Statement (.illegalI8088x6A) := fixed 0 rfl (Nat.le_of_ble_eq_true rfl)
theorem illegalI8088x6B : Statement (.illegalI8088x6B) := fixed 0 rfl (Nat.le_of_ble_eq_true rfl)
theorem illegalI8088x6C : Statement (.illegalI8088x6C) := fixed 0 rfl (Nat.le_of_ble_eq_true rfl)
theorem illegalI8088x6D : Statement (.illegalI8088x6D) := fixed 0 rfl (Nat.le_of_ble_eq_true rfl)
theorem illegalI8088x6E : Statement (.illegalI8088x6E) := fixed 0 rfl (Nat.le_of_ble_eq_true rfl)
theorem illegalI8088x6F : Statement (.illegalI8088x6F) := fixed 0 rfl (Nat.le_of_ble_eq_true rfl)
theorem illegalI8088xC0 : Statement (.illegalI8088xC0) := fixed 0 rfl (Nat.le_of_ble_eq_true rfl)
theorem illegalI8088xC1 : Statement (.illegalI8088xC1) := fixed 0 rfl (Nat.le_of_ble_eq_true rfl)
theorem illegalI8088xC8 : Statement (.illegalI8088xC8) := fixed 0 rfl (Nat.le_of_ble_eq_true rfl)
theorem illegalI8088xC9 : Statement (.illegalI8088xC9) := fixed 0 rfl (Nat.le_of_ble_eq_true rfl)
theorem illegal63 : Statement (.illegal63) := fixed 0 rfl (Nat.le_of_ble_eq_true rfl)
theorem illegal64 : Statement (.illegal64) := fixed 0 rfl (Nat.le_of_ble_eq_true rfl)
theorem illegal65 : Statement (.illegal65) := fixed 0 rfl (Nat.le_of_ble_eq_true rfl)
theorem illegal66 : Statement (.illegal66) := fixed 0 rfl (Nat.le_of_ble_eq_true rfl)
theorem illegal67 : Statement (.illegal67) := fixed 0 rfl (Nat.le_of_ble_eq_true rfl)
theorem illegalD6 : Statement (.illegalD6) := fixed 0 rfl (Nat.le_of_ble_eq_true rfl)
theorem illegalF1 : Statement (.illegalF1) := fixed 0 rfl (Nat.le_of_ble_eq_true rfl)
theorem illegalC0r6 : Statement (.illegalC0r6) := fixed 1 rfl (Nat.le_of_ble_eq_true rfl)
theorem illegalC1r6 : Statement (.illegalC1r6) := fixed 1 rfl (Nat.le_of_ble_eq_true rfl)
theorem illegalD0r6 : Statement (.illegalD0r6) := fixed 1 rfl (Nat.le_of_ble_eq_true rfl)
theorem illegalD1r6 : Statement (.illegalD1r6) := fixed 1 rfl (Nat.le_of_ble_eq_true rfl)
theorem illegalD2r6 : Statement (.illegalD2r6) := fixed 1 rfl (Nat.le_of_ble_eq_true rfl)
theorem illegalD3r6 : Statement (.illegalD3r6) := fixed 1 rfl (Nat.le_of_ble_eq_true rfl)
theorem illegalF6r1 : Statement (.illegalF6r1) := fixed 1 rfl (Nat.le_of_ble_eq_true rfl)
theorem illegalF7r1 : Statement (.illegalF7r1) := fixed 1 rfl (Nat.le_of_ble_eq_true rfl)
theorem illegalFEr2 : Statement (.illegalFEr2) := fixed 1 rfl (Nat.le_of_ble_eq_true rfl)
theorem illegalFEr3 : Statement (.illegalFEr3) := fixed 1 rfl (Nat.le_of_ble_eq_true rfl)
theorem illegalFEr4 : Statement (.illegalFEr4) := fixed 1 rfl (Nat.le_of_ble_eq_true rfl)
theorem illegalFEr5 : Statement (.illegalFEr5) := fixed 1 rfl (Nat.le_of_ble_eq_true rfl)
theorem illegalFEr6 : Statement (.illegalFEr6) := fixed 1 rfl (Nat.le_of_ble_eq_true rfl)
theorem illegalFEr7 : Statement (.illegalFEr7) := fixed 1 rfl (Nat.le_of_ble_eq_true rfl)
theorem illegalFFr7 : Statement (.illegalFFr7) := fixed 1 rfl (Nat.le_of_ble_eq_true rfl)
theorem illegal8Fr1 : Statement (.illegal8Fr1) := fixed 1 rfl (Nat.le_of_ble_eq_true rfl)
theorem illegal8Fr2 : Statement (.illegal8Fr2) := fixed 1 rfl (Nat.le_of_ble_eq_true rfl)
theorem illegal8Fr3 : Statement (.illegal8Fr3) := fixed 1 rfl (Nat.le_of_ble_eq_true rfl)
theorem illegal8Fr4 : Statement (.illegal8Fr4) := fixed 1 rfl (Nat.le_of_ble_eq_true rfl)
theorem illegal8Fr5 : Statement (.illegal8Fr5) := fixed 1 rfl (Nat.le_of_ble_eq_true rfl)
theorem illegal8Fr6 : Statement (.illegal8Fr6) := fixed 1 rfl (Nat.le_of_ble_eq_true rfl)
theorem illegal8Fr7 : Statement (.illegal8Fr7) := fixed 1 rfl (Nat.le_of_ble_eq_true rfl)
theorem illegalC6r1 : Statement (.illegalC6r1) := fixed 1 rfl (Nat.le_of_ble_eq_true rfl)
theorem illegalC6r2 : Statement (.illegalC6r2) := fixed 1 rfl (Nat.le_of_ble_eq_true rfl)
theorem illegalC6r3 : Statement (.illegalC6r3) := fixed 1 rfl (Nat.le_of_ble_eq_true rfl)
theorem illegalC6r4 : Statement (.illegalC6r4) := fixed 1 rfl (Nat.le_of_ble_eq_true rfl)
theorem illegalC6r5 : Statement (.illegalC6r5) := fixed 1 rfl (Nat.le_of_ble_eq_true rfl)
theorem illegalC6r6 : Statement (.illegalC6r6) := fixed 1 rfl (Nat.le_of_ble_eq_true rfl)
theorem illegalC6r7 : Statement (.illegalC6r7) := fixed 1 rfl (Nat.le_of_ble_eq_true rfl)
theorem illegalC7r1 : Statement (.illegalC7r1) := fixed 1 rfl (Nat.le_of_ble_eq_true rfl)
theorem illegalC7r2 : Statement (.illegalC7r2) := fixed 1 rfl (Nat.le_of_ble_eq_true rfl)
theorem illegalC7r3 : Statement (.illegalC7r3) := fixed 1 rfl (Nat.le_of_ble_eq_true rfl)
theorem illegalC7r4 : Statement (.illegalC7r4) := fixed 1 rfl (Nat.le_of_ble_eq_true rfl)
theorem illegalC7r5 : Statement (.illegalC7r5) := fixed 1 rfl (Nat.le_of_ble_eq_true rfl)
theorem illegalC7r6 : Statement (.illegalC7r6) := fixed 1 rfl (Nat.le_of_ble_eq_true rfl)
theorem illegalC7r7 : Statement (.illegalC7r7) := fixed 1 rfl (Nat.le_of_ble_eq_true rfl)
theorem illegal8Cr4 : Statement (.illegal8Cr4) := fixed 1 rfl (Nat.le_of_ble_eq_true rfl)
theorem illegal8Cr5 : Statement (.illegal8Cr5) := fixed 1 rfl (Nat.le_of_ble_eq_true rfl)
theorem illegal8Cr6 : Statement (.illegal8Cr6) := fixed 1 rfl (Nat.le_of_ble_eq_true rfl)
theorem illegal8Cr7 : Statement (.illegal8Cr7) := fixed 1 rfl (Nat.le_of_ble_eq_true rfl)
theorem illegal8Er1 : Statement (.illegal8Er1) := fixed 1 rfl (Nat.le_of_ble_eq_true rfl)
theorem illegal8Er4 : Statement (.illegal8Er4) := fixed 1 rfl (Nat.le_of_ble_eq_true rfl)
theorem illegal8Er5 : Statement (.illegal8Er5) := fixed 1 rfl (Nat.le_of_ble_eq_true rfl)
theorem illegal8Er6 : Statement (.illegal8Er6) := fixed 1 rfl (Nat.le_of_ble_eq_true rfl)
theorem illegal8Er7 : Statement (.illegal8Er7) := fixed 1 rfl (Nat.le_of_ble_eq_true rfl)
theorem illegal8Dmod3 : Statement (.illegal8Dmod3) := fixed 1 rfl (Nat.le_of_ble_eq_true rfl)
theorem illegalC4mod3 : Statement (.illegalC4mod3) := fixed 1 rfl (Nat.le_of_ble_eq_true rfl)
theorem illegalC5mod3 : Statement (.illegalC5mod3) := fixed 1 rfl (Nat.le_of_ble_eq_true rfl)
theorem illegal62mod3 : Statement (.illegal62mod3) := fixed 1 rfl (Nat.le_of_ble_eq_true rfl)
theorem illegalFFr3mod3 : Statement (.illegalFFr3mod3) := fixed 1 rfl (Nat.le_of_ble_eq_true rfl)
theorem illegalFFr5mod3 : Statement (.illegalFFr5mod3) := fixed 1 rfl (Nat.le_of_ble_eq_true rfl)

end EncodeLength

end Sys2Proof.Laws
end

