-- ==== Sys2Proof/Laws/Shapes.lean ====
section
/-! SUPPORT. What each shape of instruction does, in the terms of Safety.lean: a move, a push, an ALU operation, a
read-modify-write, a shift, a jump. -/

namespace Sys2Proof.Machine

section shapes

variable {s t : State}

/-- A read changes the device record only. -/
theorem readLoc8_frame (l : Loc8) (s : State) :
    SameSystem s (readLoc8 l s).2 ∧ (readLoc8 l s).2.ip = s.ip ∧ (readLoc8 l s).2.flags = s.flags ∧
      SameData s (readLoc8 l s).2 := by
  simp [sameSystem_iff, SameData]

theorem readLoc16_frame (l : Loc16) (s : State) :
    SameSystem s (readLoc16 l s).2 ∧ (readLoc16 l s).2.ip = s.ip ∧ (readLoc16 l s).2.flags = s.flags ∧
      SameData s (readLoc16 l s).2 := by
  simp [sameSystem_iff, SameData]

/-- A byte written in a state that has the registers, memory and tables of `s`. -/
theorem writeLoc8_putFrom {s t : State} (hw : s.mem.wf = true) (hg : t.gpr = s.gpr) (hs : t.seg = s.seg) (hm : t.mem = s.mem)
    (hk : ∀ a, kindAt s a = kindAt t a) (l : Loc8) (v : Byte) : PutByte l v s (writeLoc8 l v t) :=
  (writeLoc8_put (s := t) (by rw [hm]; exact hw) l v).congr hg.symm hs.symm hm.symm hk rfl rfl rfl

/-- A word written in a state that has the registers, memory, tables and word wrap of `s`. -/
theorem writeLoc16_putFrom {s t : State} (hw : s.mem.wf = true) (hg : t.gpr = s.gpr) (hs : t.seg = s.seg) (hm : t.mem = s.mem)
    (hk : ∀ a, kindAt s a = kindAt t a) (hp : t.wordWrap = s.wordWrap) (l : Loc16) (v : Word) :
    PutWord l v s (writeLoc16 l v t) :=
  (writeLoc16_put (s := t) (by rw [hm]; exact hw) l v).congr hg.symm hs.symm hm.symm hk hp.symm rfl rfl rfl

/-- A register destination needs no memory. -/
theorem setReg16_put (r : Reg16) (v : Word) (s : State) : PutWord (.reg r) v s (setReg16 r v s) :=
  ⟨fun q => reg16_setReg16 q r v s, rfl, rfl⟩

theorem setReg8_put (r : Reg8) (v : Byte) (s : State) : PutByte (.reg r) v s (setReg8 r v s) := by
  refine ⟨rfl, fun q => reg8_setReg8 q r v s, fun q hq => ?_, rfl⟩
  rw [reg16_setReg8, if_neg]
  rintro rfl
  cases r <;> simp [wholeOf] at hq

/-! ### Moves (40_data_transfer.md R200) -/

theorem writeLoc8_moved (hw : s.mem.wf = true) (l : Loc8) (v : Byte) : MovedByte l v s (writeLoc8 l v s) :=
  ⟨by simp [sameSystem_iff], by simp, by simp, writeLoc8_put hw l v⟩

theorem writeLoc16_moved (hw : s.mem.wf = true) (l : Loc16) (v : Word) : MovedWord l v s (writeLoc16 l v s) :=
  ⟨by simp [sameSystem_iff], by simp, by simp, writeLoc16_put hw l v⟩

theorem move8_moved (hw : s.mem.wf = true) (d c : Loc8) : MovedByte d (readLoc8 c s).1 s (move8 d c s) := by
  unfold move8
  exact ⟨by simp [sameSystem_iff], by simp, by simp, writeLoc8_putFrom hw (by simp) (by simp) (by simp) (by simp) _ _⟩

theorem move16_moved (hw : s.mem.wf = true) (d c : Loc16) : MovedWord d (readLoc16 c s).1 s (move16 d c s) := by
  unfold move16
  exact ⟨by simp [sameSystem_iff], by simp, by simp,
    writeLoc16_putFrom hw (by simp) (by simp) (by simp) (by simp) (by simp) _ _⟩

/-- A move into a register, whatever memory holds. -/
theorem move16_reg_moved (r : Reg16) (c : Loc16) (s : State) : MovedWord (.reg r) (readLoc16 c s).1 s (move16 (.reg r) c s) := by
  refine ⟨by simp [sameSystem_iff, move16], by simp [move16], by simp [move16], fun q => ?_, by simp [move16, writeLoc16], by
    simp [move16, writeLoc16]⟩
  unfold move16 writeLoc16
  simp

theorem move8_reg_moved (r : Reg8) (c : Loc8) (s : State) : MovedByte (.reg r) (readLoc8 c s).1 s (move8 (.reg r) c s) := by
  refine ⟨by simp [sameSystem_iff, move8], by simp [move8], by simp [move8], by simp [move8], fun q => ?_, fun q hq => ?_, by
    simp [move8, writeLoc8]⟩
  · unfold move8 writeLoc8
    simp
  · show reg16 q (setReg8 r _ _) = _
    rw [reg16_setReg8, if_neg, readLoc8_reg16]
    rintro rfl
    cases r <;> simp [wholeOf] at hq

/-! ### Pushes and pops (20_memory.md R94, R95) -/

theorem push16_pushed (hw : s.mem.wf = true) (v : Word) : Pushed v s (push16 v s) :=
  ⟨by simp [sameSystem_iff], by simp, by simp, by simp, sameRegsBut_of_set (push16_gpr v s) _ (by simp), by simp,
    push16_stored hw v⟩

/-- PUSH of a location reads it with SP already decremented (40_data_transfer.md R214, R216). -/
theorem pushLoc_pushed (hw : s.mem.wf = true) (l : Loc16) : Pushed (readLoc16 l (decSp s)).1 s (pushLoc l s) := by
  have hst : Stored (wordCells s.wordWrap s.seg.ss (s.gpr.sp - 2#16) (readLoc16 l (decSp s)).1) s (pushLoc l s) := by
    have h := memWrite16_stored (s := (readLoc16 l (decSp s)).2) (by simpa using hw) s.seg.ss (s.gpr.sp - 2#16)
      (readLoc16 l (decSp s)).1
    rw [readLoc16_wordWrap, decSp_wordWrap] at h
    exact h.congr (by simp) rfl (by simp)
  exact ⟨by simp [sameSystem_iff, pushLoc], by simp [pushLoc], by simp [pushLoc], by simp [pushLoc],
    sameRegsBut_of_set (r := .sp) (v := s.gpr.sp - 2#16) (by simp [pushLoc]) _ (by simp), by simp [pushLoc], hst⟩

/-- What a pop leaves (20_memory.md R95). -/
theorem pop16_frame (s : State) :
    SameSystem s (pop16 s).2 ∧ (pop16 s).2.ip = s.ip ∧ (pop16 s).2.flags = s.flags ∧ (pop16 s).2.seg = s.seg ∧
      (pop16 s).2.mem = s.mem ∧ (pop16 s).2.gpr = s.gpr.set .sp (s.gpr.sp + 2#16) ∧
      (pop16 s).1 = (memRead16 s.seg.ss s.gpr.sp s).1 := by
  refine ⟨by simp [sameSystem_iff], ?_⟩
  simp
  rfl

/-! ### The ALU (41_arithmetic.md R265) -/

/-- The operands have been read into `a` and `b`; `t` differs from `s` in the device record only. -/
theorem aluApply8_done (hw : s.mem.wf = true) (hy : SameSystem s t) (hi : t.ip = s.ip) (hf : t.flags = s.flags)
    (hd : SameData s t) (op : AluOp) (d : Loc8) (a b : Byte) : AluByteDone op d a b s (aluApply8 op d a b t) := by
  unfold AluByteDone aluApply8
  have hk : ∀ x, kindAt s x = kindAt (setFlags (aluFlags op a b t.flags).2 t) x := fun x => by
    simpa using (hy.kindAt x).symm
  split
  · exact ⟨hy.trans (by simp [sameSystem_iff]), by simpa using hi, by simp [hf], hd⟩
  · refine ⟨hy.trans (by simp [sameSystem_iff]), by simpa using hi, by simp [hf], ?_⟩
    rw [hf] at hk ⊢
    exact writeLoc8_putFrom hw (by simpa using hd.1) (by simpa using hd.2.1) (by simpa using hd.2.2) hk _ _

theorem aluApply16_done (hw : s.mem.wf = true) (hy : SameSystem s t) (hi : t.ip = s.ip) (hf : t.flags = s.flags)
    (hd : SameData s t) (op : AluOp) (d : Loc16) (a b : Word) : AluWordDone op d a b s (aluApply16 op d a b t) := by
  unfold AluWordDone aluApply16
  have hk : ∀ x, kindAt s x = kindAt (setFlags (aluFlags op a b t.flags).2 t) x := fun x => by
    simpa using (hy.kindAt x).symm
  have hp : t.wordWrap = s.wordWrap := (sameSystem_iff.1 hy).2.2.2.2.2.2.2.2.2.2.2.2
  split
  · exact ⟨hy.trans (by simp [sameSystem_iff]), by simpa using hi, by simp [hf], hd⟩
  · refine ⟨hy.trans (by simp [sameSystem_iff]), by simpa using hi, by simp [hf], ?_⟩
    rw [hf] at hk ⊢
    exact writeLoc16_putFrom hw (by simpa using hd.1) (by simpa using hd.2.1) (by simpa using hd.2.2) hk (by simpa using hp) _ _

theorem aluImm8_done (hw : s.mem.wf = true) (op : AluOp) (d : Loc8) (v : Byte) :
    AluByteDone op d (readLoc8 d s).1 v s (aluImm8 op d v s) :=
  aluApply8_done hw (readLoc8_frame d s).1 (readLoc8_frame d s).2.1 (readLoc8_frame d s).2.2.1 (readLoc8_frame d s).2.2.2
    op d _ v

theorem aluImm16_done (hw : s.mem.wf = true) (op : AluOp) (d : Loc16) (v : Word) :
    AluWordDone op d (readLoc16 d s).1 v s (aluImm16 op d v s) :=
  aluApply16_done hw (readLoc16_frame d s).1 (readLoc16_frame d s).2.1 (readLoc16_frame d s).2.2.1
    (readLoc16_frame d s).2.2.2 op d _ v

/-- Two operands, the destination read first. -/
theorem alu8_done (hw : s.mem.wf = true) (op : AluOp) (d c : Loc8) :
    AluByteDone op d (readLoc8 d s).1 (readLoc8 c (readLoc8 d s).2).1 s (alu8 op d c s) := by
  unfold alu8
  exact aluApply8_done hw (by simp [sameSystem_iff]) (by simp) (by simp) (by simp [SameData]) op d _ _

theorem alu16_done (hw : s.mem.wf = true) (op : AluOp) (d c : Loc16) :
    AluWordDone op d (readLoc16 d s).1 (readLoc16 c (readLoc16 d s).2).1 s (alu16 op d c s) := by
  unfold alu16
  exact aluApply16_done hw (by simp [sameSystem_iff]) (by simp) (by simp) (by simp [SameData]) op d _ _

/-! ### Read, modify, write (41_arithmetic.md R271 to R273) -/

theorem modify8_done (hw : s.mem.wf = true) (f : Byte → Word → Byte × Word) (l : Loc8) :
    SameSystem s (modify8 f l s) ∧ (modify8 f l s).ip = s.ip ∧
      (modify8 f l s).flags = (f (readLoc8 l s).1 s.flags).2 ∧
      PutByte l (f (readLoc8 l s).1 s.flags).1 s (modify8 f l s) := by
  refine ⟨by simp [sameSystem_iff, modify8], by simp [modify8], by simp [modify8], ?_⟩
  unfold modify8
  simpa using writeLoc8_putFrom (t := setFlags (f (readLoc8 l s).1 (readLoc8 l s).2.flags).2 (readLoc8 l s).2) hw
    (by simp) (by simp) (by simp) (by simp) l (f (readLoc8 l s).1 (readLoc8 l s).2.flags).1

theorem modify16_done (hw : s.mem.wf = true) (f : Word → Word → Word × Word) (l : Loc16) :
    SameSystem s (modify16 f l s) ∧ (modify16 f l s).ip = s.ip ∧
      (modify16 f l s).flags = (f (readLoc16 l s).1 s.flags).2 ∧
      PutWord l (f (readLoc16 l s).1 s.flags).1 s (modify16 f l s) := by
  refine ⟨by simp [sameSystem_iff, modify16], by simp [modify16], by simp [modify16], ?_⟩
  unfold modify16
  simpa using writeLoc16_putFrom (t := setFlags (f (readLoc16 l s).1 (readLoc16 l s).2.flags).2 (readLoc16 l s).2) hw
    (by simp) (by simp) (by simp) (by simp) (by simp) l (f (readLoc16 l s).1 (readLoc16 l s).2.flags).1

/-! ### Shifts and rotates (42_logic_shift.md R330 to R339) -/

theorem flag_shiftAux (op : ShiftOp) {f : Flag} (h : f ≠ .aux) (s : State) : flag f (shiftAux op s) = flag f s := by
  unfold shiftAux
  split
  · exact undefFlags_flag _ _ (by simpa using h)
  · rfl

theorem shiftAux_bit (op : ShiftOp) (s : State) {i : Nat} (h : isPlainShift op = false ∨ i ≠ 4) :
    (shiftAux op s).flags.getLsbD i = s.flags.getLsbD i := by
  unfold shiftAux
  split
  · next hp =>
    refine undefFlags_bit _ _ _ fun f hf => ?_
    have hi : i ≠ 4 := h.resolve_left (by simp [hp])
    simp only [List.mem_singleton] at hf
    subst hf
    exact fun e => hi e.symm
  · rfl

/-- The top two bits after SHR and SAR by one position: the old top bit moves down (42_logic_shift.md R337 to R339). -/
theorem shr_top {n : Nat} (hn : 2 ≤ n) (a : BitVec n) (c : Bool) :
    ((shiftTimes .shr 1 a c).1.getLsbD (n - 1) ^^ (shiftTimes .shr 1 a c).1.getLsbD (n - 2)) = a.msb := by
  have h1 : 1 + (n - 1) = n := by omega
  have h2 : 1 + (n - 2) = n - 1 := by omega
  simp [shiftTimes, shiftOnce, h1, h2, BitVec.msb_eq_getLsbD_last]

theorem sar_top {n : Nat} (hn : 2 ≤ n) (a : BitVec n) (c : Bool) :
    ((shiftTimes .sar 1 a c).1.getLsbD (n - 1) ^^ (shiftTimes .sar 1 a c).1.getLsbD (n - 2)) = false := by
  have h1 : 1 + (n - 1) = n := by omega
  have h2 : 1 + (n - 2) = n - 1 := by omega
  have h3 : n - 1 < n := by omega
  have h4 : n - 2 < n - 1 := by omega
  have h5 : 0 < n := by omega
  simp [shiftTimes, shiftOnce, h1, h2, h3, h4, h5, BitVec.msb_eq_getLsbD_last]

/-- The flags of a shift by `k ≥ 1`. -/
theorem shiftAux_done {n : Nat} (hn : 2 ≤ n) (op : ShiftOp) (a : BitVec n) (k : Nat) {s t u : State}
    (hu : u.flags = (shiftAux op (setFlags (shiftFlags op a k s.flags).2 t)).flags) :
    ShiftFlagsDone op a k (shiftTimes op k a (flag .carry s)) s u := by
  have hfl : ∀ f, f ≠ .aux → flag f u = flagOf f (shiftFlags op a k s.flags).2 := fun f hf => by
    rw [flag_congr hu, flag_shiftAux op hf, flag_setFlags]
  have hbit : ∀ i, isPlainShift op = false ∨ i ≠ 4 → u.flags.getLsbD i = (shiftFlags op a k s.flags).2.getLsbD i :=
    fun i hi => by rw [hu, shiftAux_bit op _ hi]; rfl
  refine ⟨?_, ?_, ?_⟩
  · rw [hfl _ (by decide)]
    unfold shiftFlags
    cases op <;> simp [isPlainShift, szp] <;> rfl
  · rw [hfl _ (by decide)]
    unfold shiftFlags shiftOverflow
    by_cases hk : k = 1
    · subst hk
      cases op <;> simp [isPlainShift, isLeftShift, szp, shr_top hn, sar_top hn] <;> rfl
    · cases op <;> simp [isPlainShift, szp, hk] <;> rfl
  · cases op
    all_goals
      first
      | (intro i hi
         have h0 := hi .carry (by simp)
         have h11 := hi .overflow (by simp)
         rw [hbit i (.inl rfl)]
         unfold shiftFlags
         simp [isPlainShift, Ne.symm h0, Ne.symm h11])
      | (refine ⟨⟨?_, ?_, ?_⟩, ?_⟩
         · rw [hfl _ (by decide)]; unfold shiftFlags; simp [isPlainShift]; rfl
         · rw [hfl _ (by decide)]; unfold shiftFlags; simp [isPlainShift]; rfl
         · rw [hfl _ (by decide)]; unfold shiftFlags; simp [isPlainShift]; rfl
         · intro i hi
           have h0 := hi .carry (by simp)
           have h11 := hi .overflow (by simp)
           have h7 := hi .sign (by simp)
           have h6 := hi .zero (by simp)
           have h2 := hi .parity (by simp)
           have h4 := hi .aux (by simp)
           rw [hbit i (.inr (Ne.symm h4))]
           unfold shiftFlags szp
           simp [isPlainShift, Ne.symm h0, Ne.symm h11, Ne.symm h7, Ne.symm h6, Ne.symm h2])

theorem shift8_done (hw : s.mem.wf = true) (op : ShiftOp) (l : Loc8) (raw : Byte) :
    ShiftByteDone op l (readLoc8 l s).1 raw s (shift8 op l raw s) := by
  unfold ShiftByteDone shift8
  dsimp only
  split
  · simp [sameSystem_iff, SameData]
  · have ha : ∀ (w : Word), (shiftAux op (setFlags w (readLoc8 l s).2)).gpr = s.gpr ∧
        (shiftAux op (setFlags w (readLoc8 l s).2)).seg = s.seg ∧ (shiftAux op (setFlags w (readLoc8 l s).2)).mem = s.mem ∧
        (shiftAux op (setFlags w (readLoc8 l s).2)).ip = s.ip ∧
        SameSystem s (shiftAux op (setFlags w (readLoc8 l s).2)) := fun w => by
      unfold shiftAux; split <;> simp [sameSystem_iff]
    obtain ⟨h1, h2, h3, h4, h5⟩ := ha (shiftFlags op (readLoc8 l s).1 (effectiveCount s.cpuMode raw) s.flags).2
    simp only [readLoc8_flags]
    refine ⟨h5.trans (by simp [sameSystem_iff]), by simp [h4], ?_, shiftAux_done (by decide) op _ _ (t := (readLoc8 l s).2) (by simp)⟩
    exact writeLoc8_putFrom hw h1 h2 h3 (fun a => (h5.kindAt a).symm) _ _

theorem shift16_done (hw : s.mem.wf = true) (op : ShiftOp) (l : Loc16) (raw : Byte) :
    ShiftWordDone op l (readLoc16 l s).1 raw s (shift16 op l raw s) := by
  unfold ShiftWordDone shift16
  dsimp only
  split
  · simp [sameSystem_iff, SameData]
  · have ha : ∀ (w : Word), (shiftAux op (setFlags w (readLoc16 l s).2)).gpr = s.gpr ∧
        (shiftAux op (setFlags w (readLoc16 l s).2)).seg = s.seg ∧ (shiftAux op (setFlags w (readLoc16 l s).2)).mem = s.mem ∧
        (shiftAux op (setFlags w (readLoc16 l s).2)).ip = s.ip ∧
        SameSystem s (shiftAux op (setFlags w (readLoc16 l s).2)) := fun w => by
      unfold shiftAux; split <;> simp [sameSystem_iff]
    obtain ⟨h1, h2, h3, h4, h5⟩ := ha (shiftFlags op (readLoc16 l s).1 (effectiveCount s.cpuMode raw) s.flags).2
    simp only [readLoc16_flags]
    refine ⟨h5.trans (by simp [sameSystem_iff]), by simp [h4], ?_, shiftAux_done (by decide) op _ _ (t := (readLoc16 l s).2) (by simp)⟩
    exact writeLoc16_putFrom hw h1 h2 h3 (fun a => (h5.kindAt a).symm) (sameSystem_iff.1 h5).2.2.2.2.2.2.2.2.2.2.2.2 _ _

/-! ### Jumps (44_control_transfer.md R400) -/

theorem jumpIf_jumped (c : Bool) (d : Byte) (s : State) :
    JumpedTo (if c then s.ip + sext16 d else s.ip) s (jumpIf c d s) := by
  unfold JumpedTo SameData
  cases c
  · exact ⟨.refl s, ⟨rfl, rfl, rfl⟩, rfl, rfl⟩
  · exact ⟨by simp [sameSystem_iff, jumpIf, jumpRel8], ⟨rfl, rfl, rfl⟩, rfl, rfl⟩

theorem setIp_jumped (v : Word) (s : State) : JumpedTo v s (setIp v s) :=
  ⟨by simp [sameSystem_iff], ⟨rfl, rfl, rfl⟩, rfl, rfl⟩

theorem farTo_jumped (c v : Word) (s : State) : FarJumpedTo c v s (farTo c v s) :=
  ⟨by simp [sameSystem_iff], rfl, rfl, fun q hq => by
    have : q ≠ .cs := by simpa using hq
    simp [this], rfl, rfl, rfl⟩

end shapes

end Sys2Proof.Machine
end

