-- ==== Sys2Proof/Laws/Step.lean ====
section
/-! SUPPORT. The parts of a step: what the state before the decode is when nothing is due, and that interrupt entry neither
reads nor writes the parts of the state a step sets at its start. -/

namespace Sys2Proof.Machine

/-! ### Interrupt entry does not look at what a step sets at its start -/

/-- `s` with other values in the fields a step sets before its decode. -/
def rehide (b : Bool) (c : Nat) (g : Signal) (d : DecodeState) (p : Option (List (Option Byte))) (s : State) : State :=
  { s with trap := b, cycles := c, signal := g, dec := d, pic := p }

section rehide

variable (b : Bool) (c : Nat) (g : Signal) (d : DecodeState) (p : Option (List (Option Byte))) (s : State)

theorem rehide_flags : (rehide b c g d p s).flags = s.flags := rfl
theorem rehide_seg : (rehide b c g d p s).seg = s.seg := rfl
theorem rehide_ip : (rehide b c g d p s).ip = s.ip := rfl

theorem clearTfIf_rehide : clearTfIf (rehide b c g d p s) = rehide b c g d p (clearTfIf s) := rfl
theorem farTo_rehide (x y : Word) : farTo x y (rehide b c g d p s) = rehide b c g d p (farTo x y s) := rfl

theorem kindAt_rehide (a : Addr) : kindAt (rehide b c g d p s) a = kindAt s a := rfl

theorem busRead8_rehide (a : Addr) :
    busRead8 a (rehide b c g d p s) = ((busRead8 a s).1, rehide b c g d p (busRead8 a s).2) := by
  unfold busRead8
  rw [kindAt_rehide]
  split <;> rfl

theorem busWrite8_rehide (a : Addr) (v : Byte) :
    busWrite8 a v (rehide b c g d p s) = rehide b c g d p (busWrite8 a v s) := by
  unfold busWrite8
  rw [kindAt_rehide]
  split <;> rfl

theorem memRead16_rehide (x y : Word) :
    memRead16 x y (rehide b c g d p s) = ((memRead16 x y s).1, rehide b c g d p (memRead16 x y s).2) := by
  simp only [memRead16, busRead8_rehide]
  rfl

theorem memWrite16_rehide (x y v : Word) :
    memWrite16 x y v (rehide b c g d p s) = rehide b c g d p (memWrite16 x y v s) := by
  simp only [memWrite16, busWrite8_rehide]
  rfl

theorem push16_rehide (v : Word) : push16 v (rehide b c g d p s) = rehide b c g d p (push16 v s) := by
  have h : decSp (rehide b c g d p s) = rehide b c g d p (decSp s) := rfl
  simp only [push16, h, memWrite16_rehide]
  rfl

theorem vectorThrough_rehide (n : Byte) :
    vectorThrough n (rehide b c g d p s) = rehide b c g d p (vectorThrough n s) := by
  unfold vectorThrough
  simp only [rehide_flags, push16_rehide, rehide_seg, rehide_ip, memRead16_rehide, farTo_rehide]
  exact clearTfIf_rehide b c g d p _

end rehide

theorem beginStep_eq (s : State) : beginStep s = rehide s.trap 0 .ok s.dec s.pic s := rfl
theorem armTrap_eq (s : State) : armTrap s = rehide (flag .trap s) s.cycles s.signal s.dec s.pic s := rfl

/-! ### The outcomes of the first items of a step -/

theorem doInterrupt_of_noHandler {n : Byte} {s : State} (h : NoHandler n s) :
    doInterrupt n s = .next (vectorThrough n s) := by
  unfold doInterrupt
  rw [h]

/-- With no trap latched item 2 does nothing (60_exceptions.md R505). -/
theorem deliverTrap_of_clear {s : State} (h : s.trap = false) : deliverTrap s = .next s := by
  simp [deliverTrap, h]

theorem pollPending_fst_congr {s t : State} (h : t.pic = s.pic) : (pollPending t).1 = (pollPending s).1 := by
  unfold pollPending
  rw [h]
  split <;> rfl

theorem pollPending_snd {s : State} : (pollPending s).2 = { s with pic := (pollPending s).2.pic } := by
  unfold pollPending
  split <;> rfl

theorem pollPending_pic_congr {s t : State} (h : t.pic = s.pic) : (pollPending t).2.pic = (pollPending s).2.pic := by
  unfold pollPending
  rw [h]
  split <;> simp [h]

/-- When nothing is due, the first items of a step lead to `decodeStart` (60_exceptions.md R502). -/
theorem step_of_nothingDue {s : State} (h : NothingDue s) :
    step s = runDecoded prefixLimit (decodeStart s) := by
  obtain ⟨hg, ht, h⟩ := h
  have h1 : deliverTrap (beginStep s) = .next (beginStep s) := deliverTrap_of_clear ht
  have h2 : deliverPending (armTrap (beginStep s)) = .next { armTrap (beginStep s) with
      pic := if flag .trap s = false ∧ flag .interrupt s = true then (pollPending s).2.pic else s.pic } := by
    unfold deliverPending
    simp only [armTrap_trap, beginStep_flag, armTrap_flag]
    by_cases hp : flag .trap s = false ∧ flag .interrupt s = true
    · have hn : (pollPending (armTrap (beginStep s))).1 = none := by
        rw [pollPending_fst_congr (t := armTrap (beginStep s)) (s := s) rfl]
        simpa [hp.1, hp.2] using h
      rw [if_pos hp, if_pos (by simp [hp.1, hp.2]), hn]
      simp only
      rw [pollPending_snd, pollPending_pic_congr (t := armTrap (beginStep s)) (s := s) rfl, armTrap_trap, beginStep_flag]
    · rw [if_neg hp, if_neg (by simpa using hp)]
      rfl
  unfold step runStep
  rw [if_neg hg, h1]
  simp only [andThen]
  rw [h2]
  rfl

/-- What `fetchInstr` gives when the bytes decode (30_encoding.md R110). -/
theorem fetchInstr_of_decode {s : State} {i : Instr} {rest : List Byte}
    (h : decode s.cpuMode (fetchBytes maxLength s).1 = .ok (i, rest)) :
    fetchInstr s = .ok (i, (fetchBytes (maxLength - rest.length) s).2) := by
  unfold fetchInstr
  rw [h]

/-- One turn of the decode phase (30_encoding.md R111). -/
theorem runDecoded_succ {s s1 : State} {i : Instr} (fuel : Nat) (h : fetchInstr s = .ok (i, s1)) :
    runDecoded (fuel + 1) s = andThen (exec i s1) (if i.isPrefix then runDecoded fuel else finishStep) := by
  simp only [runDecoded, h]

/-- A prefix loop that is under way goes on (30_encoding.md R111). -/
theorem step_of_decoding {s : State} (h : s.signal = .decoding) : step s = runDecoded prefixLimit (resumeDecode s) := by
  unfold step runStep
  rw [if_pos h]

/-- Every call of `step` that is not turned aside by an interrupt is the decode phase from the state `DecodesFrom` names. -/
theorem step_of_decodesFrom {s d : State} (h : DecodesFrom s d) : step s = runDecoded prefixLimit d := by
  rcases h with ⟨h, rfl⟩ | ⟨h, rfl⟩
  · exact step_of_nothingDue h
  · exact step_of_decoding h

/-! ### The REP loop (43_string.md R370) -/

theorem repLoop_zero (opcode : Byte) (scan : Bool) (once : State → State) (prim : Word) (s : State) :
    repLoop opcode scan once prim 0 s = .next s := rfl

/-- One iteration whose opcode byte, on no `Opaque` device, is unchanged. -/
theorem repLoop_succ (opcode : Byte) (scan : Bool) (once : State → State) (prim : Word) (k : Nat) {s : State}
    (h : peek s (lin s.seg.cs prim) = some opcode) :
    repLoop opcode scan once prim (k + 1) s =
      if scan && repExit (decCx (once (setIp (prim + 1#16) s))) then .next (decCx (once (setIp (prim + 1#16) s)))
      else repLoop opcode scan once prim k (decCx (once (setIp (prim + 1#16) s))) := by
  have hf : fetch8 (setIp prim s) = (opcode, setIp (prim + 1#16) s) := by
    unfold fetch8
    simp only [setIp_seg, setIp_ip]
    rw [busRead8_of_peek (s := setIp prim s) h]
    rfl
  simp only [repLoop, hf, if_true]

/-! ### The tick phase (60_exceptions.md R526) -/

/-- Bus accesses leave everything but contents and device record alone. -/
theorem runBusOps_frame (ops : List BusOp) (s : State) :
    SameSystem s (runBusOps ops s) ∧ (runBusOps ops s).gpr = s.gpr ∧ (runBusOps ops s).seg = s.seg ∧
      (runBusOps ops s).ip = s.ip ∧ (runBusOps ops s).flags = s.flags := by
  induction ops generalizing s with
  | nil => exact ⟨.refl s, rfl, rfl, rfl, rfl⟩
  | cons o os ih =>
    have h : SameSystem s (runBusOp o s) ∧ (runBusOp o s).gpr = s.gpr ∧ (runBusOp o s).seg = s.seg ∧
        (runBusOp o s).ip = s.ip ∧ (runBusOp o s).flags = s.flags := by
      cases o <;> simp [runBusOp, sameSystem_iff]
    obtain ⟨a, b, c, d, e⟩ := ih (runBusOp o s)
    exact ⟨h.1.trans a, b.trans h.2.1, c.trans h.2.2.1, d.trans h.2.2.2.1, e.trans h.2.2.2.2⟩

theorem runBusOps_wf (ops : List BusOp) {s : State} (h : s.mem.wf = true) : (runBusOps ops s).mem.wf = true := by
  induction ops generalizing s with
  | nil => exact h
  | cons o os ih =>
    refine ih ?_
    cases o <;> simp [runBusOp, h]
    exact busWrite8_wf h _ _

/-- A software handler's effects leave the hidden state and the platform alone. -/
theorem runHandlerOps_system (ops : List HandlerOp) (s : State) : SameSystem s (runHandlerOps ops s) := by
  induction ops generalizing s with
  | nil => exact .refl s
  | cons o os ih =>
    refine SameSystem.trans ?_ (ih (runHandlerOp o s))
    cases o with
    | bus b => exact (runBusOps_frame [b] s).1
    | setReg r v => simp [runHandlerOp, sameSystem_iff]
    | setSeg r v => simp [runHandlerOp, sameSystem_iff]
    | setIp v => simp [runHandlerOp, sameSystem_iff]
    | storeFlags v => simp [runHandlerOp, sameSystem_iff]

theorem runHandlerOps_wf (ops : List HandlerOp) {s : State} (h : s.mem.wf = true) : (runHandlerOps ops s).mem.wf = true := by
  induction ops generalizing s with
  | nil => exact h
  | cons o os ih =>
    refine ih ?_
    cases o with
    | bus b => exact runBusOps_wf [b] h
    | setReg r v => exact h
    | setSeg r v => exact h
    | setIp v => exact h
    | storeFlags v => exact h

end Sys2Proof.Machine
end

