-- ==== Sys2Proof/Tests/Slice0.lean ====
section
/-! SUPPORT. The model's own tests: ill-formed terms the check refuses; for every constructor a word written out from
30_encoding.md (R114 to R131, R140) and spec/opcode_table.json; single steps with the expected values of
95_test_vectors.md; and for every obligation with hypotheses a state and operands that meet them. -/

namespace Sys2Proof.Tests

set_option Elab.async false

open Sys2Proof.Machine Sys2Proof.Rows

/-! ### Helpers -/

/-- Registers and segments 0, IP = 0100h, no controller: the start state of 95_test_vectors.md, in a CPU mode. -/
def base (m : CpuMode) : State :=
  { State.reset with seg := { es := 0#16, cs := 0#16, ss := 0#16, ds := 0#16 }, ip := 0x100#16, pic := none, cpuMode := m }

/-- Bytes placed from CS:IP on. -/
def code (bs : List Nat) (s : State) : State :=
  { s with mem := placeBytes s.seg.cs (bs.map (BitVec.ofNat 8)) s.ip s.mem }

/-- Bytes placed from a linear address below 10000h on. -/
def data (a : Nat) (bs : List Nat) (s : State) : State :=
  { s with mem := placeBytes 0#16 (bs.map (BitVec.ofNat 8)) (BitVec.ofNat 16 a) s.mem }

/-- Registers set to values. -/
def regs (l : List (Reg16 × Nat)) (s : State) : State := l.foldl (fun s p => setReg16 p.1 (BitVec.ofNat 16 p.2) s) s

/-- Segment registers set to values. -/
def segs (l : List (Sreg × Nat)) (s : State) : State := l.foldl (fun s p => setSreg p.1 (BitVec.ofNat 16 p.2) s) s

/-- FLAGS set to a value. -/
def fl (n : Nat) (s : State) : State := { s with flags := BitVec.ofNat 16 n }

/-- The state an outcome holds. -/
def after (r : Res) : State :=
  match r with
  | .next s => s
  | .fault (.debugBreak s) => s
  | .fault (.peripheralError _ s) => s
  | .fault (.handlerError _ s) => s
  | .refused (.repByteChanged s) => s
  | .refused (.notModelled _) => State.reset
  | .refused .badPlatform => State.reset
  | .refused (.undecodable _) => State.reset

/-- The outcome is a next state. -/
def isNext (r : Res) : Bool :=
  match r with
  | .next _ => true
  | .fault _ => false
  | .refused _ => false

/-- The outcome is `DebugBreak`. -/
def isDebugBreak (r : Res) : Bool :=
  match r with
  | .fault (.debugBreak _) => true
  | .fault (.peripheralError _ _) => false
  | .fault (.handlerError _ _) => false
  | .next _ => false
  | .refused _ => false

theorem eq_next {r : Res} (h : isNext r = true) : r = .next (after r) := by
  cases r with
  | next s => rfl
  | fault f => exact absurd h (by simp [isNext])
  | refused f => exact absurd h (by simp [isNext])

theorem forall_mem_of_all {α : Type} {P : α → Prop} [DecidablePred P] {l : List α}
    (h : l.all (fun a => decide (P a)) = true) : ∀ a ∈ l, P a :=
  fun a ha => of_decide_eq_true (List.all_eq_true.mp h a ha)

theorem forall_mem₂_of_all {α β : Type} {P : α → β → Prop} [∀ a b, Decidable (P a b)] {l : List α} {l' : List β}
    (h : (l.all fun a => l'.all fun b => decide (P a b)) = true) : ∀ a ∈ l, ∀ b ∈ l', P a b :=
  fun a ha b hb => of_decide_eq_true (List.all_eq_true.mp (List.all_eq_true.mp h a ha) b hb)

/-- The word at a linear address. -/
def wordAt (a : Nat) (s : State) : Word := wordOfBytes (s.mem.read a) (s.mem.read (a + 1))

/-! ### WellFormed refuses (30_encoding.md R123, R140; 40_data_transfer.md R211; 46_v20_extensions.md R470) -/

theorem test_illFormed_rm8 : Instr.wellFormed .v20 (.addEbGb (.mem (.disp0 .bp)) .al) = false := by decide
theorem test_illFormed_rm16 : Instr.wellFormed .v20 (.movGvEv .ax (.mem (.disp0 .bp))) = false := by decide
theorem test_illFormed_mem : Instr.wellFormed .v20 (.leaGvM .ax (.disp0 .bp)) = false := by decide
theorem test_illFormed_esc : Instr.wellFormed .v20 (.esc 0#3 0#3 (.mem (.disp0 .bp))) = false := by decide
theorem test_illFormed_xchgAxAx : Instr.wellFormed .v20 (.xchgAxR16 .ax) = false := by decide
theorem test_illFormed_v20Row : Instr.wellFormed .i8088 .pusha = false := by decide
theorem test_illFormed_v20Bound : Instr.wellFormed .v20 (.boundGvMa .ax (.disp0 .bp)) = false := by decide
theorem test_illFormed_v20Shift : Instr.wellFormed .i8088 (.shlEbIb (.reg .al) 1#8) = false := by decide
theorem test_illFormed_i8088Row : Instr.wellFormed .v20 .illegalI8088x60 = false := by decide
theorem test_illFormed_v20Illegal : Instr.wellFormed .i8088 .illegal62mod3 = false := by decide

/-! ### A word for every constructor -/

/-- A mode, the bytes of an instruction, and the instruction. -/
structure CodeRow where
  mode : CpuMode
  bytes : List Nat
  instr : Instr

/-- Each row's bytes decode to its instruction, and the byte 90h after them is left. -/
def wordsDecode (l : List CodeRow) : Bool :=
  l.all fun r => match decode r.mode (r.bytes.map (BitVec.ofNat 8) ++ [0x90#8]) with
    | .ok (i, rest) => decide (i = r.instr ∧ rest = [0x90#8])
    | .error _ => false

theorem test_words_0 : wordsDecode (
  ([⟨.v20, [0x00, 0x1E, 0x34, 0x12], .addEbGb (.mem (.direct 0x1234#16)) .bl⟩,
    ⟨.v20, [0x01, 0x72, 0xFE], .addEvGv (.mem (.disp8 .bpSi 0xFE#8)) .si⟩,
    ⟨.v20, [0x02, 0xC8], .addGbEb .cl (.reg .al)⟩,
    ⟨.v20, [0x03, 0xA7, 0x80, 0xFF], .addGvEv .sp (.mem (.disp16 .bx 0xFF80#16))⟩,
    ⟨.v20, [0x04, 0x9C], .addAlIb 0x9C#8⟩,
    ⟨.v20, [0x05, 0x11, 0xE0], .addAxIw 0xE011#16⟩] : List CodeRow) ++
  ([⟨.v20, [0x08, 0x3D], .orEbGb (.mem (.disp0 .di)) .bh⟩,
    ⟨.v20, [0x09, 0xD1], .orEvGv (.reg .cx) .dx⟩,
    ⟨.v20, [0x0A, 0x6E, 0x00], .orGbEb .ch (.mem (.disp8 .bp 0x00#8))⟩,
    ⟨.v20, [0x0B, 0x80, 0xCD, 0xAB], .orGvEv .ax (.mem (.disp16 .bxSi 0xABCD#16))⟩,
    ⟨.v20, [0x0C, 0x9C], .orAlIb 0x9C#8⟩,
    ⟨.v20, [0x0D, 0x11, 0xE0], .orAxIw 0xE011#16⟩] : List CodeRow) ++
  ([⟨.v20, [0x06], .pushEs⟩,
    ⟨.v20, [0x0E], .pushCs⟩,
    ⟨.v20, [0x07], .popEs⟩] : List CodeRow)) = true := by decide +kernel

theorem test_words_1 : wordsDecode (
  ([⟨.v20, [0x10, 0xDA], .adcEbGb (.reg .dl) .bl⟩,
    ⟨.v20, [0x11, 0x33], .adcEvGv (.mem (.disp0 .bpDi)) .si⟩,
    ⟨.v20, [0x12, 0x4C, 0x7F], .adcGbEb .cl (.mem (.disp8 .si 0x7F#8))⟩,
    ⟨.v20, [0x13, 0xE3], .adcGvEv .sp (.reg .bx)⟩,
    ⟨.v20, [0x14, 0x9C], .adcAlIb 0x9C#8⟩,
    ⟨.v20, [0x15, 0x11, 0xE0], .adcAxIw 0xE011#16⟩] : List CodeRow) ++
  ([⟨.v20, [0x18, 0xB9, 0x01, 0x00], .sbbEbGb (.mem (.disp16 .bxDi 0x0001#16)) .bh⟩,
    ⟨.v20, [0x19, 0x16, 0x34, 0x12], .sbbEvGv (.mem (.direct 0x1234#16)) .dx⟩,
    ⟨.v20, [0x1A, 0xEC], .sbbGbEb .ch (.reg .ah)⟩,
    ⟨.v20, [0x1B, 0x42, 0xFE], .sbbGvEv .ax (.mem (.disp8 .bpSi 0xFE#8))⟩,
    ⟨.v20, [0x1C, 0x9C], .sbbAlIb 0x9C#8⟩,
    ⟨.v20, [0x1D, 0x11, 0xE0], .sbbAxIw 0xE011#16⟩] : List CodeRow) ++
  ([⟨.v20, [0x16], .pushSs⟩,
    ⟨.v20, [0x1E], .pushDs⟩,
    ⟨.v20, [0x17], .popSs⟩,
    ⟨.v20, [0x1F], .popDs⟩] : List CodeRow)) = true := by decide +kernel

theorem test_words_2 : wordsDecode (
  ([⟨.v20, [0x20, 0x9F, 0x80, 0xFF], .andEbGb (.mem (.disp16 .bx 0xFF80#16)) .bl⟩,
    ⟨.v20, [0x21, 0xF5], .andEvGv (.reg .bp) .si⟩,
    ⟨.v20, [0x22, 0x0D], .andGbEb .cl (.mem (.disp0 .di))⟩,
    ⟨.v20, [0x23, 0x66, 0x00], .andGvEv .sp (.mem (.disp8 .bp 0x00#8))⟩,
    ⟨.v20, [0x24, 0x9C], .andAlIb 0x9C#8⟩,
    ⟨.v20, [0x25, 0x11, 0xE0], .andAxIw 0xE011#16⟩] : List CodeRow) ++
  ([⟨.v20, [0x28, 0xFE], .subEbGb (.reg .dh) .bh⟩,
    ⟨.v20, [0x29, 0x90, 0xCD, 0xAB], .subEvGv (.mem (.disp16 .bxSi 0xABCD#16)) .dx⟩,
    ⟨.v20, [0x2A, 0x2B], .subGbEb .ch (.mem (.disp0 .bpDi))⟩,
    ⟨.v20, [0x2B, 0xC7], .subGvEv .ax (.reg .di)⟩,
    ⟨.v20, [0x2C, 0x9C], .subAlIb 0x9C#8⟩,
    ⟨.v20, [0x2D, 0x11, 0xE0], .subAxIw 0xE011#16⟩] : List CodeRow) ++
  ([⟨.v20, [0x26], .prefixEs⟩,
    ⟨.v20, [0x2E], .prefixCs⟩,
    ⟨.v20, [0x27], .daa⟩,
    ⟨.v20, [0x2F], .das⟩] : List CodeRow)) = true := by decide +kernel

theorem test_words_3 : wordsDecode (
  ([⟨.v20, [0x30, 0x5C, 0x7F], .xorEbGb (.mem (.disp8 .si 0x7F#8)) .bl⟩,
    ⟨.v20, [0x31, 0xB1, 0x01, 0x00], .xorEvGv (.mem (.disp16 .bxDi 0x0001#16)) .si⟩,
    ⟨.v20, [0x32, 0xC8], .xorGbEb .cl (.reg .al)⟩,
    ⟨.v20, [0x33, 0x26, 0x34, 0x12], .xorGvEv .sp (.mem (.direct 0x1234#16))⟩,
    ⟨.v20, [0x34, 0x9C], .xorAlIb 0x9C#8⟩,
    ⟨.v20, [0x35, 0x11, 0xE0], .xorAxIw 0xE011#16⟩] : List CodeRow) ++
  ([⟨.v20, [0x38, 0x7A, 0xFE], .cmpEbGb (.mem (.disp8 .bpSi 0xFE#8)) .bh⟩,
    ⟨.v20, [0x39, 0xD1], .cmpEvGv (.reg .cx) .dx⟩,
    ⟨.v20, [0x3A, 0xAF, 0x80, 0xFF], .cmpGbEb .ch (.mem (.disp16 .bx 0xFF80#16))⟩,
    ⟨.v20, [0x3B, 0x05], .cmpGvEv .ax (.mem (.disp0 .di))⟩,
    ⟨.v20, [0x3C, 0x9C], .cmpAlIb 0x9C#8⟩,
    ⟨.v20, [0x3D, 0x11, 0xE0], .cmpAxIw 0xE011#16⟩] : List CodeRow) ++
  ([⟨.v20, [0x36], .prefixSs⟩,
    ⟨.v20, [0x3E], .prefixDs⟩,
    ⟨.v20, [0x37], .aaa⟩,
    ⟨.v20, [0x3F], .aas⟩] : List CodeRow)) = true := by decide +kernel

theorem test_words_4 : wordsDecode (
  ([⟨.v20, [0x45], .incR16 .bp⟩,
    ⟨.v20, [0x4D], .decR16 .bp⟩] : List CodeRow)) = true := by decide +kernel

theorem test_words_5 : wordsDecode (
  ([⟨.v20, [0x55], .pushR16 .bp⟩,
    ⟨.v20, [0x5D], .popR16 .bp⟩] : List CodeRow)) = true := by decide +kernel

theorem test_words_6 : wordsDecode (
  ([⟨.v20, [0x60], .pusha⟩,
    ⟨.v20, [0x61], .popa⟩,
    ⟨.v20, [0x62, 0x5E, 0x00], .boundGvMa .bx (.disp8 .bp 0x00#8)⟩,
    ⟨.v20, [0x68, 0x11, 0xE0], .pushIw 0xE011#16⟩,
    ⟨.v20, [0x69, 0xF2, 0x5A, 0xC3], .imulGvEvIw .si (.reg .dx) 0xC35A#16⟩,
    ⟨.v20, [0x6A, 0x9C], .pushIbS 0x9C#8⟩] : List CodeRow) ++
  ([⟨.v20, [0x6B, 0x88, 0xCD, 0xAB, 0x9C], .imulGvEvIbS .cx (.mem (.disp16 .bxSi 0xABCD#16)) 0x9C#8⟩,
    ⟨.v20, [0x6C], .insb⟩,
    ⟨.v20, [0x6D], .insw⟩,
    ⟨.v20, [0x6E], .outsb⟩,
    ⟨.v20, [0x6F], .outsw⟩] : List CodeRow)) = true := by decide +kernel

theorem test_words_7 : wordsDecode (
  ([⟨.v20, [0x70, 0x9C], .joRel8 0x9C#8⟩,
    ⟨.v20, [0x71, 0x9C], .jnoRel8 0x9C#8⟩,
    ⟨.v20, [0x72, 0x9C], .jbRel8 0x9C#8⟩,
    ⟨.v20, [0x73, 0x9C], .jaeRel8 0x9C#8⟩,
    ⟨.v20, [0x74, 0x9C], .jeRel8 0x9C#8⟩,
    ⟨.v20, [0x75, 0x9C], .jneRel8 0x9C#8⟩] : List CodeRow) ++
  ([⟨.v20, [0x76, 0x9C], .jbeRel8 0x9C#8⟩,
    ⟨.v20, [0x77, 0x9C], .jaRel8 0x9C#8⟩,
    ⟨.v20, [0x78, 0x9C], .jsRel8 0x9C#8⟩,
    ⟨.v20, [0x79, 0x9C], .jnsRel8 0x9C#8⟩,
    ⟨.v20, [0x7A, 0x9C], .jpRel8 0x9C#8⟩,
    ⟨.v20, [0x7B, 0x9C], .jnpRel8 0x9C#8⟩] : List CodeRow) ++
  ([⟨.v20, [0x7C, 0x9C], .jlRel8 0x9C#8⟩,
    ⟨.v20, [0x7D, 0x9C], .jgeRel8 0x9C#8⟩,
    ⟨.v20, [0x7E, 0x9C], .jleRel8 0x9C#8⟩,
    ⟨.v20, [0x7F, 0x9C], .jgRel8 0x9C#8⟩] : List CodeRow)) = true := by decide +kernel

theorem test_words_8_a : wordsDecode (
  ([⟨.v20, [0x80, 0x03, 0x9C], .addEbIb (.mem (.disp0 .bpDi)) 0x9C#8⟩,
    ⟨.v20, [0x80, 0xCB, 0x9C], .orEbIb (.reg .bl) 0x9C#8⟩,
    ⟨.v20, [0x80, 0x54, 0x7F, 0x9C], .adcEbIb (.mem (.disp8 .si 0x7F#8)) 0x9C#8⟩,
    ⟨.v20, [0x80, 0x99, 0x01, 0x00, 0x9C], .sbbEbIb (.mem (.disp16 .bxDi 0x0001#16)) 0x9C#8⟩,
    ⟨.v20, [0x80, 0xE4, 0x9C], .andEbIb (.reg .ah) 0x9C#8⟩,
    ⟨.v20, [0x80, 0x2E, 0x34, 0x12, 0x9C], .subEbIb (.mem (.direct 0x1234#16)) 0x9C#8⟩] : List CodeRow) ++
  ([⟨.v20, [0x80, 0x72, 0xFE, 0x9C], .xorEbIb (.mem (.disp8 .bpSi 0xFE#8)) 0x9C#8⟩,
    ⟨.v20, [0x80, 0xFD, 0x9C], .cmpEbIb (.reg .ch) 0x9C#8⟩,
    ⟨.v20, [0x81, 0x87, 0x80, 0xFF, 0x5A, 0xC3], .addEvIw (.mem (.disp16 .bx 0xFF80#16)) 0xC35A#16⟩,
    ⟨.v20, [0x81, 0x0D, 0x5A, 0xC3], .orEvIw (.mem (.disp0 .di)) 0xC35A#16⟩,
    ⟨.v20, [0x81, 0xD6, 0x5A, 0xC3], .adcEvIw (.reg .si) 0xC35A#16⟩,
    ⟨.v20, [0x81, 0x5E, 0x00, 0x5A, 0xC3], .sbbEvIw (.mem (.disp8 .bp 0x00#8)) 0xC35A#16⟩] : List CodeRow) ++
  ([⟨.v20, [0x81, 0xA0, 0xCD, 0xAB, 0x5A, 0xC3], .andEvIw (.mem (.disp16 .bxSi 0xABCD#16)) 0xC35A#16⟩,
    ⟨.v20, [0x81, 0xEF, 0x5A, 0xC3], .subEvIw (.reg .di) 0xC35A#16⟩,
    ⟨.v20, [0x81, 0x33, 0x5A, 0xC3], .xorEvIw (.mem (.disp0 .bpDi)) 0xC35A#16⟩,
    ⟨.v20, [0x81, 0x7C, 0x7F, 0x5A, 0xC3], .cmpEvIw (.mem (.disp8 .si 0x7F#8)) 0xC35A#16⟩,
    ⟨.v20, [0x82, 0xC0, 0x9C], .addEbIb82 (.reg .al) 0x9C#8⟩,
    ⟨.v20, [0x82, 0x89, 0x01, 0x00, 0x9C], .orEbIb82 (.mem (.disp16 .bxDi 0x0001#16)) 0x9C#8⟩] : List CodeRow) ++
  ([⟨.v20, [0x82, 0x16, 0x34, 0x12, 0x9C], .adcEbIb82 (.mem (.direct 0x1234#16)) 0x9C#8⟩,
    ⟨.v20, [0x82, 0xD9, 0x9C], .sbbEbIb82 (.reg .cl) 0x9C#8⟩,
    ⟨.v20, [0x82, 0x62, 0xFE, 0x9C], .andEbIb82 (.mem (.disp8 .bpSi 0xFE#8)) 0x9C#8⟩,
    ⟨.v20, [0x82, 0xAF, 0x80, 0xFF, 0x9C], .subEbIb82 (.mem (.disp16 .bx 0xFF80#16)) 0x9C#8⟩,
    ⟨.v20, [0x82, 0xF2, 0x9C], .xorEbIb82 (.reg .dl) 0x9C#8⟩,
    ⟨.v20, [0x82, 0x3D, 0x9C], .cmpEbIb82 (.mem (.disp0 .di)) 0x9C#8⟩] : List CodeRow)) = true := by decide +kernel

theorem test_words_8_b : wordsDecode (
  ([⟨.v20, [0x83, 0x46, 0x00, 0x9C], .addEvIbS (.mem (.disp8 .bp 0x00#8)) 0x9C#8⟩,
    ⟨.v20, [0x83, 0xCB, 0x9C], .orEvIbS (.reg .bx) 0x9C#8⟩,
    ⟨.v20, [0x83, 0x90, 0xCD, 0xAB, 0x9C], .adcEvIbS (.mem (.disp16 .bxSi 0xABCD#16)) 0x9C#8⟩,
    ⟨.v20, [0x83, 0x1B, 0x9C], .sbbEvIbS (.mem (.disp0 .bpDi)) 0x9C#8⟩,
    ⟨.v20, [0x83, 0xE4, 0x9C], .andEvIbS (.reg .sp) 0x9C#8⟩,
    ⟨.v20, [0x83, 0x6C, 0x7F, 0x9C], .subEvIbS (.mem (.disp8 .si 0x7F#8)) 0x9C#8⟩] : List CodeRow) ++
  ([⟨.v20, [0x83, 0xB1, 0x01, 0x00, 0x9C], .xorEvIbS (.mem (.disp16 .bxDi 0x0001#16)) 0x9C#8⟩,
    ⟨.v20, [0x83, 0xFD, 0x9C], .cmpEvIbS (.reg .bp) 0x9C#8⟩,
    ⟨.v20, [0x84, 0x26, 0x34, 0x12], .testEbGb (.mem (.direct 0x1234#16)) .ah⟩,
    ⟨.v20, [0x85, 0x7A, 0xFE], .testEvGv (.mem (.disp8 .bpSi 0xFE#8)) .di⟩,
    ⟨.v20, [0x86, 0xD6], .xchgEbGb (.reg .dh) .dl⟩,
    ⟨.v20, [0x87, 0xAF, 0x80, 0xFF], .xchgEvGv (.mem (.disp16 .bx 0xFF80#16)) .bp⟩] : List CodeRow) ++
  ([⟨.v20, [0x88, 0x05], .movEbGb (.mem (.disp0 .di)) .al⟩,
    ⟨.v20, [0x89, 0xDF], .movEvGv (.reg .di) .bx⟩,
    ⟨.v20, [0x8A, 0x76, 0x00], .movGbEb .dh (.mem (.disp8 .bp 0x00#8))⟩,
    ⟨.v20, [0x8B, 0x88, 0xCD, 0xAB], .movGvEv .cx (.mem (.disp16 .bxSi 0xABCD#16))⟩,
    ⟨.v20, [0x8C, 0xC0], .movEwEs (.reg .ax)⟩,
    ⟨.v20, [0x8C, 0x0B], .movEwCs (.mem (.disp0 .bpDi))⟩] : List CodeRow) ++
  ([⟨.v20, [0x8C, 0x54, 0x7F], .movEwSs (.mem (.disp8 .si 0x7F#8))⟩,
    ⟨.v20, [0x8C, 0xD9], .movEwDs (.reg .cx)⟩,
    ⟨.v20, [0x8D, 0xA1, 0x01, 0x00], .leaGvM .sp (.disp16 .bxDi 0x0001#16)⟩,
    ⟨.v20, [0x8E, 0x06, 0x34, 0x12], .movEsEw (.mem (.direct 0x1234#16))⟩,
    ⟨.v20, [0x8E, 0x52, 0xFE], .movSsEw (.mem (.disp8 .bpSi 0xFE#8))⟩,
    ⟨.v20, [0x8E, 0xDA], .movDsEw (.reg .dx)⟩] : List CodeRow)) = true := by decide +kernel

theorem test_words_8_c : wordsDecode (
  ([⟨.v20, [0x8F, 0x87, 0x80, 0xFF], .popEv (.mem (.disp16 .bx 0xFF80#16))⟩] : List CodeRow)) = true := by decide +kernel

theorem test_words_9 : wordsDecode (
  ([⟨.v20, [0x90], .nop⟩,
    ⟨.v20, [0x95], .xchgAxR16 .bp⟩,
    ⟨.v20, [0x98], .cbw⟩,
    ⟨.v20, [0x99], .cwd⟩,
    ⟨.v20, [0x9A, 0x11, 0xE0, 0x13, 0xE0], .callPtr 0xE011#16 0xE013#16⟩,
    ⟨.v20, [0x9B], .wait⟩] : List CodeRow) ++
  ([⟨.v20, [0x9C], .pushf⟩,
    ⟨.v20, [0x9D], .popf⟩,
    ⟨.v20, [0x9E], .sahf⟩,
    ⟨.v20, [0x9F], .lahf⟩] : List CodeRow)) = true := by decide +kernel

theorem test_words_a : wordsDecode (
  ([⟨.v20, [0xA0, 0x11, 0xE0], .movAlOb 0xE011#16⟩,
    ⟨.v20, [0xA1, 0x11, 0xE0], .movAxOv 0xE011#16⟩,
    ⟨.v20, [0xA2, 0x11, 0xE0], .movObAl 0xE011#16⟩,
    ⟨.v20, [0xA3, 0x11, 0xE0], .movOvAx 0xE011#16⟩,
    ⟨.v20, [0xA4], .movsb⟩,
    ⟨.v20, [0xA5], .movsw⟩] : List CodeRow) ++
  ([⟨.v20, [0xA6], .cmpsb⟩,
    ⟨.v20, [0xA7], .cmpsw⟩,
    ⟨.v20, [0xAA], .stosb⟩,
    ⟨.v20, [0xAB], .stosw⟩,
    ⟨.v20, [0xAC], .lodsb⟩,
    ⟨.v20, [0xAD], .lodsw⟩] : List CodeRow) ++
  ([⟨.v20, [0xAE], .scasb⟩,
    ⟨.v20, [0xAF], .scasw⟩,
    ⟨.v20, [0xA8, 0x9C], .testAlIb 0x9C#8⟩,
    ⟨.v20, [0xA9, 0x11, 0xE0], .testAxIw 0xE011#16⟩] : List CodeRow)) = true := by decide +kernel

theorem test_words_b : wordsDecode (
  ([⟨.v20, [0xB5, 0x9C], .movR8Ib .ch 0x9C#8⟩,
    ⟨.v20, [0xBD, 0x11, 0xE0], .movR16Iw .bp 0xE011#16⟩] : List CodeRow)) = true := by decide +kernel

theorem test_words_c_a : wordsDecode (
  ([⟨.v20, [0xC0, 0x05, 0x9C], .rolEbIb (.mem (.disp0 .di)) 0x9C#8⟩,
    ⟨.v20, [0xC0, 0xCB, 0x9C], .rorEbIb (.reg .bl) 0x9C#8⟩,
    ⟨.v20, [0xC0, 0x56, 0x00, 0x9C], .rclEbIb (.mem (.disp8 .bp 0x00#8)) 0x9C#8⟩,
    ⟨.v20, [0xC0, 0x98, 0xCD, 0xAB, 0x9C], .rcrEbIb (.mem (.disp16 .bxSi 0xABCD#16)) 0x9C#8⟩,
    ⟨.v20, [0xC0, 0xE4, 0x9C], .shlEbIb (.reg .ah) 0x9C#8⟩,
    ⟨.v20, [0xC0, 0x2B, 0x9C], .shrEbIb (.mem (.disp0 .bpDi)) 0x9C#8⟩] : List CodeRow) ++
  ([⟨.v20, [0xC0, 0x7C, 0x7F, 0x9C], .sarEbIb (.mem (.disp8 .si 0x7F#8)) 0x9C#8⟩,
    ⟨.v20, [0xC1, 0xC5, 0x9C], .rolEvIb (.reg .bp) 0x9C#8⟩,
    ⟨.v20, [0xC1, 0x89, 0x01, 0x00, 0x9C], .rorEvIb (.mem (.disp16 .bxDi 0x0001#16)) 0x9C#8⟩,
    ⟨.v20, [0xC1, 0x16, 0x34, 0x12, 0x9C], .rclEvIb (.mem (.direct 0x1234#16)) 0x9C#8⟩,
    ⟨.v20, [0xC1, 0xDE, 0x9C], .rcrEvIb (.reg .si) 0x9C#8⟩,
    ⟨.v20, [0xC1, 0x62, 0xFE, 0x9C], .shlEvIb (.mem (.disp8 .bpSi 0xFE#8)) 0x9C#8⟩] : List CodeRow) ++
  ([⟨.v20, [0xC1, 0xAF, 0x80, 0xFF, 0x9C], .shrEvIb (.mem (.disp16 .bx 0xFF80#16)) 0x9C#8⟩,
    ⟨.v20, [0xC1, 0xFF, 0x9C], .sarEvIb (.reg .di) 0x9C#8⟩,
    ⟨.v20, [0xC2, 0x11, 0xE0], .retIw 0xE011#16⟩,
    ⟨.v20, [0xC3], .ret⟩,
    ⟨.v20, [0xC4, 0x7E, 0x00], .lesGvMp .di (.disp8 .bp 0x00#8)⟩,
    ⟨.v20, [0xC5, 0x90, 0xCD, 0xAB], .ldsGvMp .dx (.disp16 .bxSi 0xABCD#16)⟩] : List CodeRow) ++
  ([⟨.v20, [0xCA, 0x11, 0xE0], .retfIw 0xE011#16⟩,
    ⟨.v20, [0xCB], .retf⟩,
    ⟨.v20, [0xCC], .int3⟩,
    ⟨.v20, [0xCD, 0x9C], .intIb 0x9C#8⟩,
    ⟨.v20, [0xCE], .into⟩,
    ⟨.v20, [0xCF], .iret⟩] : List CodeRow)) = true := by decide +kernel

theorem test_words_c_b : wordsDecode (
  ([⟨.v20, [0xC6, 0x03, 0x9C], .movEbIb (.mem (.disp0 .bpDi)) 0x9C#8⟩,
    ⟨.v20, [0xC7, 0xC1, 0x5A, 0xC3], .movEvIw (.reg .cx) 0xC35A#16⟩,
    ⟨.v20, [0xC8, 0x11, 0xE0, 0x9C], .enterIwIb 0xE011#16 0x9C#8⟩,
    ⟨.v20, [0xC9], .leave⟩] : List CodeRow)) = true := by decide +kernel

theorem test_words_d_a : wordsDecode (
  ([⟨.v20, [0xD0, 0x05], .rolEb1 (.mem (.disp0 .di))⟩,
    ⟨.v20, [0xD0, 0x4E, 0x00], .rorEb1 (.mem (.disp8 .bp 0x00#8))⟩,
    ⟨.v20, [0xD0, 0xD0], .rclEb1 (.reg .al)⟩,
    ⟨.v20, [0xD0, 0x98, 0xCD, 0xAB], .rcrEb1 (.mem (.disp16 .bxSi 0xABCD#16))⟩,
    ⟨.v20, [0xD0, 0x23], .shlEb1 (.mem (.disp0 .bpDi))⟩,
    ⟨.v20, [0xD0, 0xE9], .shrEb1 (.reg .cl)⟩] : List CodeRow) ++
  ([⟨.v20, [0xD0, 0x7C, 0x7F], .sarEb1 (.mem (.disp8 .si 0x7F#8))⟩,
    ⟨.v20, [0xD1, 0x81, 0x01, 0x00], .rolEv1 (.mem (.disp16 .bxDi 0x0001#16))⟩,
    ⟨.v20, [0xD1, 0xCA], .rorEv1 (.reg .dx)⟩,
    ⟨.v20, [0xD1, 0x16, 0x34, 0x12], .rclEv1 (.mem (.direct 0x1234#16))⟩,
    ⟨.v20, [0xD1, 0x5A, 0xFE], .rcrEv1 (.mem (.disp8 .bpSi 0xFE#8))⟩,
    ⟨.v20, [0xD1, 0xE3], .shlEv1 (.reg .bx)⟩] : List CodeRow) ++
  ([⟨.v20, [0xD1, 0xAF, 0x80, 0xFF], .shrEv1 (.mem (.disp16 .bx 0xFF80#16))⟩,
    ⟨.v20, [0xD1, 0x3D], .sarEv1 (.mem (.disp0 .di))⟩,
    ⟨.v20, [0xD2, 0xC4], .rolEbCl (.reg .ah)⟩,
    ⟨.v20, [0xD2, 0x4E, 0x00], .rorEbCl (.mem (.disp8 .bp 0x00#8))⟩,
    ⟨.v20, [0xD2, 0x90, 0xCD, 0xAB], .rclEbCl (.mem (.disp16 .bxSi 0xABCD#16))⟩,
    ⟨.v20, [0xD2, 0xDD], .rcrEbCl (.reg .ch)⟩] : List CodeRow) ++
  ([⟨.v20, [0xD2, 0x23], .shlEbCl (.mem (.disp0 .bpDi))⟩,
    ⟨.v20, [0xD2, 0x6C, 0x7F], .shrEbCl (.mem (.disp8 .si 0x7F#8))⟩,
    ⟨.v20, [0xD2, 0xFE], .sarEbCl (.reg .dh)⟩,
    ⟨.v20, [0xD3, 0x81, 0x01, 0x00], .rolEvCl (.mem (.disp16 .bxDi 0x0001#16))⟩,
    ⟨.v20, [0xD3, 0x0E, 0x34, 0x12], .rorEvCl (.mem (.direct 0x1234#16))⟩,
    ⟨.v20, [0xD3, 0xD7], .rclEvCl (.reg .di)⟩] : List CodeRow)) = true := by decide +kernel

theorem test_words_d_b : wordsDecode (
  ([⟨.v20, [0xD3, 0x5A, 0xFE], .rcrEvCl (.mem (.disp8 .bpSi 0xFE#8))⟩,
    ⟨.v20, [0xD3, 0xA7, 0x80, 0xFF], .shlEvCl (.mem (.disp16 .bx 0xFF80#16))⟩,
    ⟨.v20, [0xD3, 0xE8], .shrEvCl (.reg .ax)⟩,
    ⟨.v20, [0xD3, 0x3D], .sarEvCl (.mem (.disp0 .di))⟩,
    ⟨.v20, [0xD4, 0x9C], .aamIb 0x9C#8⟩,
    ⟨.v20, [0xD5, 0x9C], .aadIb 0x9C#8⟩] : List CodeRow) ++
  ([⟨.v20, [0xD7], .xlat⟩,
    ⟨.v20, [0xDD, 0x5A, 0xFE], .esc 5#3 3#3 (.mem (.disp8 .bpSi 0xFE#8))⟩] : List CodeRow)) = true := by decide +kernel

theorem test_words_e : wordsDecode (
  ([⟨.v20, [0xE0, 0x9C], .loopneRel8 0x9C#8⟩,
    ⟨.v20, [0xE1, 0x9C], .loopeRel8 0x9C#8⟩,
    ⟨.v20, [0xE2, 0x9C], .loopRel8 0x9C#8⟩,
    ⟨.v20, [0xE3, 0x9C], .jcxzRel8 0x9C#8⟩,
    ⟨.v20, [0xE4, 0x9C], .inAlIb 0x9C#8⟩,
    ⟨.v20, [0xE5, 0x9C], .inAxIb 0x9C#8⟩] : List CodeRow) ++
  ([⟨.v20, [0xE6, 0x9C], .outIbAl 0x9C#8⟩,
    ⟨.v20, [0xE7, 0x9C], .outIbAx 0x9C#8⟩,
    ⟨.v20, [0xE8, 0x11, 0xE0], .callRel16 0xE011#16⟩,
    ⟨.v20, [0xE9, 0x11, 0xE0], .jmpRel16 0xE011#16⟩,
    ⟨.v20, [0xEA, 0x11, 0xE0, 0x13, 0xE0], .jmpPtr 0xE011#16 0xE013#16⟩,
    ⟨.v20, [0xEB, 0x9C], .jmpRel8 0x9C#8⟩] : List CodeRow) ++
  ([⟨.v20, [0xEC], .inAlDx⟩,
    ⟨.v20, [0xED], .inAxDx⟩,
    ⟨.v20, [0xEE], .outDxAl⟩,
    ⟨.v20, [0xEF], .outDxAx⟩] : List CodeRow)) = true := by decide +kernel

theorem test_words_f_a : wordsDecode (
  ([⟨.v20, [0xF0], .prefixLock⟩,
    ⟨.v20, [0xF2], .prefixRepne⟩,
    ⟨.v20, [0xF3], .prefixRep⟩,
    ⟨.v20, [0xF4], .hlt⟩,
    ⟨.v20, [0xF5], .cmc⟩,
    ⟨.v20, [0xF8], .clc⟩] : List CodeRow) ++
  ([⟨.v20, [0xF9], .stc⟩,
    ⟨.v20, [0xFA], .cli⟩,
    ⟨.v20, [0xFB], .sti⟩,
    ⟨.v20, [0xFC], .cld⟩,
    ⟨.v20, [0xFD], .std⟩,
    ⟨.v20, [0xF6, 0x44, 0x7F, 0x9C], .testEbIb (.mem (.disp8 .si 0x7F#8)) 0x9C#8⟩] : List CodeRow) ++
  ([⟨.v20, [0xF6, 0x91, 0x01, 0x00], .notEb (.mem (.disp16 .bxDi 0x0001#16))⟩,
    ⟨.v20, [0xF6, 0xDA], .negEb (.reg .dl)⟩,
    ⟨.v20, [0xF6, 0x26, 0x34, 0x12], .mulEb (.mem (.direct 0x1234#16))⟩,
    ⟨.v20, [0xF6, 0x6A, 0xFE], .imulEb (.mem (.disp8 .bpSi 0xFE#8))⟩,
    ⟨.v20, [0xF6, 0xF3], .divEb (.reg .bl)⟩,
    ⟨.v20, [0xF6, 0xBF, 0x80, 0xFF], .idivEb (.mem (.disp16 .bx 0xFF80#16))⟩] : List CodeRow) ++
  ([⟨.v20, [0xF7, 0x05, 0x5A, 0xC3], .testEvIw (.mem (.disp0 .di)) 0xC35A#16⟩,
    ⟨.v20, [0xF7, 0xD4], .notEv (.reg .sp)⟩,
    ⟨.v20, [0xF7, 0x5E, 0x00], .negEv (.mem (.disp8 .bp 0x00#8))⟩,
    ⟨.v20, [0xF7, 0xA0, 0xCD, 0xAB], .mulEv (.mem (.disp16 .bxSi 0xABCD#16))⟩,
    ⟨.v20, [0xF7, 0xED], .imulEv (.reg .bp)⟩,
    ⟨.v20, [0xF7, 0x33], .divEv (.mem (.disp0 .bpDi))⟩] : List CodeRow)) = true := by decide +kernel

theorem test_words_f_b : wordsDecode (
  ([⟨.v20, [0xF7, 0x7C, 0x7F], .idivEv (.mem (.disp8 .si 0x7F#8))⟩,
    ⟨.v20, [0xFE, 0xC6], .incEb (.reg .dh)⟩,
    ⟨.v20, [0xFE, 0x89, 0x01, 0x00], .decEb (.mem (.disp16 .bxDi 0x0001#16))⟩,
    ⟨.v20, [0xFF, 0x06, 0x34, 0x12], .incEv (.mem (.direct 0x1234#16))⟩,
    ⟨.v20, [0xFF, 0xCF], .decEv (.reg .di)⟩,
    ⟨.v20, [0xFF, 0x52, 0xFE], .callEv (.mem (.disp8 .bpSi 0xFE#8))⟩] : List CodeRow) ++
  ([⟨.v20, [0xFF, 0x9F, 0x80, 0xFF], .callMpFar (.disp16 .bx 0xFF80#16)⟩,
    ⟨.v20, [0xFF, 0x25], .jmpEv (.mem (.disp0 .di))⟩,
    ⟨.v20, [0xFF, 0x6E, 0x00], .jmpMpFar (.disp8 .bp 0x00#8)⟩,
    ⟨.v20, [0xFF, 0xF0], .pushEv (.reg .ax)⟩] : List CodeRow)) = true := by decide +kernel

theorem test_words_illegal_a : wordsDecode (
  ([⟨.v20, [0x0F], .illegal0F⟩,
    ⟨.i8088, [0x60], .illegalI8088x60⟩,
    ⟨.i8088, [0x61], .illegalI8088x61⟩,
    ⟨.i8088, [0x62], .illegalI8088x62⟩,
    ⟨.i8088, [0x68], .illegalI8088x68⟩,
    ⟨.i8088, [0x69], .illegalI8088x69⟩] : List CodeRow) ++
  ([⟨.i8088, [0x6A], .illegalI8088x6A⟩,
    ⟨.i8088, [0x6B], .illegalI8088x6B⟩,
    ⟨.i8088, [0x6C], .illegalI8088x6C⟩,
    ⟨.i8088, [0x6D], .illegalI8088x6D⟩,
    ⟨.i8088, [0x6E], .illegalI8088x6E⟩,
    ⟨.i8088, [0x6F], .illegalI8088x6F⟩] : List CodeRow) ++
  ([⟨.i8088, [0xC0], .illegalI8088xC0⟩,
    ⟨.i8088, [0xC1], .illegalI8088xC1⟩,
    ⟨.i8088, [0xC8], .illegalI8088xC8⟩,
    ⟨.i8088, [0xC9], .illegalI8088xC9⟩,
    ⟨.v20, [0x63], .illegal63⟩,
    ⟨.v20, [0x64], .illegal64⟩] : List CodeRow) ++
  ([⟨.v20, [0x65], .illegal65⟩,
    ⟨.v20, [0x66], .illegal66⟩,
    ⟨.v20, [0x67], .illegal67⟩,
    ⟨.v20, [0xD6], .illegalD6⟩,
    ⟨.v20, [0xF1], .illegalF1⟩,
    ⟨.v20, [0xC0, 0x32], .illegalC0r6⟩] : List CodeRow)) = true := by decide +kernel

theorem test_words_illegal_b : wordsDecode (
  ([⟨.v20, [0xC1, 0x32], .illegalC1r6⟩,
    ⟨.v20, [0xD0, 0x32], .illegalD0r6⟩,
    ⟨.v20, [0xD1, 0x32], .illegalD1r6⟩,
    ⟨.v20, [0xD2, 0x32], .illegalD2r6⟩,
    ⟨.v20, [0xD3, 0x32], .illegalD3r6⟩,
    ⟨.v20, [0xF6, 0x0A], .illegalF6r1⟩] : List CodeRow) ++
  ([⟨.v20, [0xF7, 0x0A], .illegalF7r1⟩,
    ⟨.v20, [0xFE, 0x12], .illegalFEr2⟩,
    ⟨.v20, [0xFE, 0x1A], .illegalFEr3⟩,
    ⟨.v20, [0xFE, 0x22], .illegalFEr4⟩,
    ⟨.v20, [0xFE, 0x2A], .illegalFEr5⟩,
    ⟨.v20, [0xFE, 0x32], .illegalFEr6⟩] : List CodeRow) ++
  ([⟨.v20, [0xFE, 0x3A], .illegalFEr7⟩,
    ⟨.v20, [0xFF, 0x3A], .illegalFFr7⟩,
    ⟨.v20, [0x8F, 0x0A], .illegal8Fr1⟩,
    ⟨.v20, [0x8F, 0x12], .illegal8Fr2⟩,
    ⟨.v20, [0x8F, 0x1A], .illegal8Fr3⟩,
    ⟨.v20, [0x8F, 0x22], .illegal8Fr4⟩] : List CodeRow) ++
  ([⟨.v20, [0x8F, 0x2A], .illegal8Fr5⟩,
    ⟨.v20, [0x8F, 0x32], .illegal8Fr6⟩,
    ⟨.v20, [0x8F, 0x3A], .illegal8Fr7⟩,
    ⟨.v20, [0xC6, 0x0A], .illegalC6r1⟩,
    ⟨.v20, [0xC6, 0x12], .illegalC6r2⟩,
    ⟨.v20, [0xC6, 0x1A], .illegalC6r3⟩] : List CodeRow)) = true := by decide +kernel

theorem test_words_illegal_c : wordsDecode (
  ([⟨.v20, [0xC6, 0x22], .illegalC6r4⟩,
    ⟨.v20, [0xC6, 0x2A], .illegalC6r5⟩,
    ⟨.v20, [0xC6, 0x32], .illegalC6r6⟩,
    ⟨.v20, [0xC6, 0x3A], .illegalC6r7⟩,
    ⟨.v20, [0xC7, 0x0A], .illegalC7r1⟩,
    ⟨.v20, [0xC7, 0x12], .illegalC7r2⟩] : List CodeRow) ++
  ([⟨.v20, [0xC7, 0x1A], .illegalC7r3⟩,
    ⟨.v20, [0xC7, 0x22], .illegalC7r4⟩,
    ⟨.v20, [0xC7, 0x2A], .illegalC7r5⟩,
    ⟨.v20, [0xC7, 0x32], .illegalC7r6⟩,
    ⟨.v20, [0xC7, 0x3A], .illegalC7r7⟩,
    ⟨.v20, [0x8C, 0x22], .illegal8Cr4⟩] : List CodeRow) ++
  ([⟨.v20, [0x8C, 0x2A], .illegal8Cr5⟩,
    ⟨.v20, [0x8C, 0x32], .illegal8Cr6⟩,
    ⟨.v20, [0x8C, 0x3A], .illegal8Cr7⟩,
    ⟨.v20, [0x8E, 0x0A], .illegal8Er1⟩,
    ⟨.v20, [0x8E, 0x22], .illegal8Er4⟩,
    ⟨.v20, [0x8E, 0x2A], .illegal8Er5⟩] : List CodeRow) ++
  ([⟨.v20, [0x8E, 0x32], .illegal8Er6⟩,
    ⟨.v20, [0x8E, 0x3A], .illegal8Er7⟩,
    ⟨.v20, [0x8D, 0xC0], .illegal8Dmod3⟩,
    ⟨.v20, [0xC4, 0xC0], .illegalC4mod3⟩,
    ⟨.v20, [0xC5, 0xC0], .illegalC5mod3⟩,
    ⟨.v20, [0x62, 0xC0], .illegal62mod3⟩] : List CodeRow)) = true := by decide +kernel

theorem test_words_illegal_d : wordsDecode (
  ([⟨.v20, [0xFF, 0xD8], .illegalFFr3mod3⟩,
    ⟨.v20, [0xFF, 0xE8], .illegalFFr5mod3⟩] : List CodeRow)) = true := by decide +kernel


/-- The numbering of spec/opcode_table.json: the opcode of a two-byte row is the higher byte (notes/assumptions/5.md). -/
theorem test_tableWord_twoBytes : decodeTableWord 16 0xF7E3 = some (.mulEv (.reg .bx)) := by decide +kernel
theorem test_tableWord_oneByte : decodeTableWord 8 0xF4 = some .hlt := by decide +kernel

/-! ### Single steps: the values are those of 95_test_vectors.md, by the id in the name -/

theorem test_M2_wordWrapsInSegment :
    (after (step (code [0xA1, 0xFF, 0xFF] { segs [(.ds, 0x1000)] (base .i8088) with
      mem := [(0x10000, 0x22#8), (0x1FFFF, 0x11#8), (0x20000, 0x33#8)] }))).gpr.ax = 0x2211#16 := by decide +kernel
theorem test_M2_wordWrapsLinearly :
    (after (step (code [0xA1, 0xFF, 0xFF] { segs [(.ds, 0x1000)] (base .i8088) with
      wordWrap := .linear, mem := [(0x10000, 0x22#8), (0x1FFFF, 0x11#8), (0x20000, 0x33#8)] }))).gpr.ax
      = 0x3311#16 := by decide +kernel
theorem test_M7_unmappedFetch :
    let t := after (step { State.reset with memTable := [], peripherals := [] })
    t.gpr.sp = 0xFFFA#16 ∧ t.ip = 0xFFFF#16 ∧ t.seg.cs = 0xFFFF#16 ∧ t.flags = 0x0002#16 := by decide +kernel
theorem test_E7_lastSegmentPrefix :
    reg8 .al (after (step (code [0x26, 0x2E, 0x8A, 0x07] { segs [(.cs, 0x1000), (.es, 0x4000)] (base .i8088) with
      mem := [(0x10000, 0x07#8), (0x40000, 0x08#8)] }))) = 0x07#8 := by decide +kernel
theorem test_E8_displacementBeforeImmediate :
    let t := after (step (code [0x81, 0x80, 0x34, 0x12, 0x78, 0x56] (regs [(.bx, 1), (.si, 2)] (data 0x1237 [1, 1] (base .i8088)))))
    wordAt 0x1237 t = 0x5779#16 ∧ t.ip = 0x106#16 := by decide +kernel
theorem test_E13_illegalAfterPrefix :
    let t := after (step (code [0x26, 0x0F] (regs [(.sp, 0x1000)] (data 24 [0x00, 0x07] (base .v20)))))
    t.ip = 0x700#16 ∧ wordAt 0xFFA t = 0x100#16 := by decide +kernel
theorem test_E14_v20RowIn8088 :
    isDebugBreak (step (code [0xC1, 0xE0, 0x04] (base .i8088))) = true ∧
    (after (step (code [0xC1, 0xE0, 0x04] (base .i8088)))).ip = 0x100#16 := by decide +kernel

theorem test_DT2_xchgHalves :
    (after (exec (.xchgEbGb (.reg .ah) .al) (regs [(.ax, 0x1234)] (base .i8088)))).gpr.ax = 0x3412#16 := by decide +kernel
theorem test_DT3_pushSp :
    let t := after (exec (.pushR16 .sp) (regs [(.sp, 0x100)] (base .i8088)))
    t.gpr.sp = 0xFE#16 ∧ wordAt 0xFE t = 0xFE#16 := by decide +kernel
theorem test_DT4_popSp :
    (after (exec (.popR16 .sp) (regs [(.sp, 0xFE)] (data 0xFE [0x34, 0x12] (base .i8088))))).gpr.sp = 0x1234#16 := by
  decide +kernel
theorem test_DT5_lahf : (after (exec .lahf (fl 0x8D7 (base .i8088)))).gpr.ax = 0xD700#16 := by decide +kernel
theorem test_DT6_sahf : (after (exec .sahf (fl 0x8D7 (base .i8088)))).flags = 0x0802#16 := by decide +kernel
theorem test_DT7_popf :
    (after (exec .popf (regs [(.sp, 0xFFE)] (base .i8088)))).flags = 0x0002#16 := by decide +kernel
theorem test_DT8_cbw : (after (exec .cbw (regs [(.ax, 0x80)] (base .i8088)))).gpr.ax = 0xFF80#16 := by decide +kernel
theorem test_DT8_cwd : (after (exec .cwd (regs [(.ax, 0xFF80)] (base .i8088)))).gpr.dx = 0xFFFF#16 := by decide +kernel
theorem test_DT10_unmappedPorts : (after (exec (.inAxIb 0xFF#8) (base .i8088))).gpr.ax = 0xFFFF#16 := by decide +kernel
theorem test_DT12_les :
    let t := after (exec (.lesGvMp .bx (.direct 0x200#16)) (data 0x200 [0x78, 0x56, 0x00, 0x20] (base .i8088)))
    t.gpr.bx = 0x5678#16 ∧ t.seg.es = 0x2000#16 := by decide +kernel
theorem test_DT13_lea :
    (after (exec (.leaGvM .ax (.disp8 .bx 0x02#8)) (regs [(.bx, 0xFFFF)] (base .i8088)))).gpr.ax = 0x0001#16 := by
  decide +kernel

/-- CF OF AF SF ZF PF, as 95_test_vectors.md lists them. -/
def six (w : Word) : List Bool := [.carry, .overflow, .aux, .sign, .zero, .parity].map fun f => flagOf f w

theorem test_A1_add : six (addFlags 0xFF#8 0x01#8 false 2#16).2 = [true, false, true, false, true, true] := by decide +kernel
theorem test_A3_addWord :
    six (addFlags 0x8000#16 0x8000#16 false 2#16).2 = [true, true, false, false, true, true] := by decide +kernel
theorem test_A5_adc :
    six (aluFlags .adc 0xFFFF#16 0x0000#16 3#16).2 = [true, false, true, false, true, true] := by decide +kernel
theorem test_A7_sub : six (subFlags 0x10#8 0x01#8 false 2#16).2 = [false, false, true, false, false, true] := by decide +kernel
theorem test_A9_sbb :
    six (aluFlags .sbb 0x00#8 0xFF#8 3#16).2 = [true, false, true, false, true, true] := by decide +kernel
theorem test_A10_cmp :
    let t := after (exec (.cmpAxIw 0x1000#16) (regs [(.ax, 0xFFF)] (base .i8088)))
    t.gpr.ax = 0xFFF#16 ∧ six t.flags = [true, false, false, true, false, true] := by decide +kernel
theorem test_A11_neg :
    let t := after (exec (.negEb (.reg .al)) (regs [(.ax, 0x80)] (base .i8088)))
    t.gpr.ax = 0x80#16 ∧ six t.flags = [true, true, false, true, false, false] := by decide +kernel
theorem test_A14_incKeepsCarry :
    let t := after (exec (.incR16 .ax) (regs [(.ax, 0xFFFF)] (fl 3 (base .i8088))))
    t.gpr.ax = 0#16 ∧ six t.flags = [true, false, true, false, true, true] := by decide +kernel
theorem test_A15_dec :
    let t := after (exec (.decR16 .ax) (base .i8088))
    t.gpr.ax = 0xFFFF#16 ∧ six t.flags = [false, false, true, true, false, true] := by decide +kernel
theorem test_A17_mul :
    let t := after (exec (.mulEv (.reg .bx)) (regs [(.ax, 0xFFFF), (.bx, 0xFFFF)] (base .i8088)))
    t.gpr.dx = 0xFFFE#16 ∧ t.gpr.ax = 0x0001#16 := by decide +kernel
theorem test_A19_imul :
    (after (exec (.imulEb (.reg .bl)) (regs [(.ax, 0x80), (.bx, 0x80)] (base .i8088)))).gpr.ax = 0x4000#16 := by decide +kernel
theorem test_A21_div :
    let t := after (exec (.divEv (.reg .bx)) (regs [(.dx, 1), (.bx, 2)] (base .i8088)))
    t.gpr.ax = 0x8000#16 ∧ t.gpr.dx = 0#16 := by decide +kernel
theorem test_A24_idiv :
    (after (exec (.idivEb (.reg .bl)) (regs [(.ax, 0xFFF9), (.bx, 2)] (base .i8088)))).gpr.ax = 0xFFFD#16 := by decide +kernel
theorem test_A26_idivMin :
    (after (exec (.idivEb (.reg .bl)) (regs [(.ax, 0xFF80), (.bx, 1)] (base .i8088)))).gpr.sp = 0xFFFA#16 ∧
    (after (exec (.idivEb (.reg .bl)) (regs [(.ax, 0xFF80), (.bx, 1)] (base .v20)))).gpr.ax = 0x0080#16 := by decide +kernel
theorem test_A28_daa : daaAdjust 0x9A#8 false false = { al := 0x00#8, af := true, cf := true } := by decide +kernel
theorem test_A29_das : dasAdjust 0x9A#8 false false = { al := 0x34#8, af := true, cf := true } := by decide +kernel
theorem test_A31_aaa : (after (exec .aaa (regs [(.ax, 0xFA)] (base .i8088)))).gpr.ax = 0x0100#16 := by decide +kernel
theorem test_A32_aas : (after (exec .aas (fl 0x12 (base .i8088)))).gpr.ax = 0xFF0A#16 := by decide +kernel
theorem test_A33_aam : (after (exec (.aamIb 0x10#8) (regs [(.ax, 0x5A)] (base .i8088)))).gpr.ax = 0x050A#16 := by decide +kernel
theorem test_A35_aad : (after (exec (.aadIb 0x0A#8) (regs [(.ax, 0x603)] (base .i8088)))).gpr.ax = 0x003F#16 := by decide +kernel

theorem test_L1_and :
    let t := after (exec (.andAlIb 0x0F#8) (regs [(.ax, 0xF0)] (fl 0x813 (base .i8088))))
    t.gpr.ax = 0#16 ∧ six t.flags = [false, false, true, false, true, true] := by decide +kernel
theorem test_L3_not :
    let t := after (exec (.notEv (.reg .ax)) (regs [(.ax, 0x5555)] (base .i8088)))
    t.gpr.ax = 0xAAAA#16 ∧ t.flags = 2#16 := by decide +kernel
theorem test_L7_countMask :
    (after (exec (.shlEbCl (.reg .al)) (regs [(.ax, 1), (.cx, 0x20)] (base .v20)))).gpr.ax = 1#16 ∧
    (after (exec (.shlEbCl (.reg .al)) (regs [(.ax, 1), (.cx, 0x20)] (base .i8088)))).gpr.ax = 0#16 := by decide +kernel
theorem test_L8_sar : shiftTimes .sar 10 0x80#8 false = (0xFF#8, true) := by decide +kernel
theorem test_L9_rcl : shiftTimes .rcl 17 0x1234#16 true = (0x1234#16, true) := by decide +kernel
theorem test_L10_rcr : shiftTimes .rcr 2 0x01#8 false = (0x80#8, false) := by decide +kernel
theorem test_L13_rol : shiftTimes .rol 4 0x8001#16 false = (0x0018#16, false) := by decide +kernel
theorem test_L14_shr : shiftTimes .shr 16 0x8000#16 false = (0x0000#16, true) := by decide +kernel

theorem test_S1_movswDown :
    let t := after (exec .movsw (regs [(.si, 0x100), (.di, 0x200)] (fl 0x402 (data 0x100 [0xEF, 0xBE] (base .i8088)))))
    wordAt 0x200 t = 0xBEEF#16 ∧ t.gpr.si = 0xFE#16 ∧ t.gpr.di = 0x1FE#16 := by decide +kernel
theorem test_S4_repneScasb :
    let t := after (step (code [0xF2, 0xAE] (regs [(.cx, 4), (.di, 0x300)] (data 0x300 [0x11, 0x22, 0x33, 0x44] (base .i8088)))))
    t.gpr.cx = 0#16 ∧ t.gpr.di = 0x304#16 ∧ six t.flags = [true, false, true, true, false, false] := by decide +kernel
theorem test_S10_changedByte :
    let r := step (code [0xF3, 0xA4] (regs [(.cx, 2), (.si, 0x200), (.di, 0x101)] (data 0x200 [0x90] (base .i8088))))
    isNext r = false ∧ (after r).gpr.cx = 1#16 ∧ (after r).gpr.di = 0x102#16 ∧ (after r).ip = 0x102#16 := by decide +kernel

theorem test_CT1_jumpWraps : (after (step (code [0xEB, 0x80] { base .i8088 with ip := 0x10#16 }))).ip = 0xFF92#16 := by
  decide +kernel
theorem test_CT3_jg : (after (step (code [0x7F, 0x05] (fl 0x882 (base .i8088))))).ip = 0x107#16 := by decide +kernel
theorem test_CT7_retIw :
    let t := after (exec (.retIw 6#16) (regs [(.sp, 0xFFE)] (data 0xFFE [0x34, 0x12] (base .i8088))))
    t.ip = 0x1234#16 ∧ t.gpr.sp = 0x1006#16 := by decide +kernel
theorem test_CT8_int3 :
    let t := after (step (code [0xCC] (fl 0x202 (regs [(.sp, 0x1000)] (data 12 [0x00, 0x06] (base .i8088))))))
    wordAt 0xFFE t = 0x202#16 ∧ wordAt 0xFFC t = 0#16 ∧ wordAt 0xFFA t = 0x101#16 ∧ t.ip = 0x600#16 ∧ t.flags = 2#16 := by
  decide +kernel
theorem test_CT12_loope :
    let t := after (step (code [0xE1, 0xFE] (fl 0x42 (regs [(.cx, 2)] (base .i8088)))))
    t.gpr.cx = 1#16 ∧ t.ip = 0x100#16 := by decide +kernel
theorem test_CT15_callSp :
    let t := after (step (code [0xFF, 0xD4] (regs [(.sp, 0x2000)] (base .i8088))))
    t.ip = 0x2000#16 ∧ wordAt 0x1FFE t = 0x102#16 := by decide +kernel
theorem test_CT16_iret :
    let t := after (exec .iret (regs [(.sp, 0xFFA)] (data 0xFFA [0x00, 0x02, 0x00, 0x00, 0x02, 0x01] (base .i8088))))
    t.ip = 0x200#16 ∧ t.flags = 0x102#16 ∧ t.gpr.sp = 0x1000#16 := by decide +kernel
theorem test_P2_hlt :
    let t := after (step (code [0xF0, 0xF4] (base .i8088)))
    t.signal = .halt ∧ t.ip = 0x101#16 ∧ t.icount = 1#64 := by decide +kernel

theorem test_V1_pusha :
    let t := after (exec .pusha (regs [(.sp, 0x1000), (.ax, 1), (.di, 6)] (base .v20)))
    t.gpr.sp = 0xFF0#16 ∧ wordAt 0xFFE t = 1#16 ∧ wordAt 0xFF6 t = 0x1000#16 ∧ wordAt 0xFF0 t = 6#16 := by decide +kernel
theorem test_V3_imulImmediate :
    (after (exec (.imulGvEvIbS .ax (.reg .bx) 0x7F#8) (regs [(.bx, 0x400)] (base .v20)))).gpr.ax = 0xFC00#16 := by
  decide +kernel
theorem test_V6_enter :
    let t := after (exec (.enterIwIb 0#16 0x21#8) (regs [(.sp, 0x1000), (.bp, 0x2000)] (base .v20)))
    wordAt 0xFFE t = 0x2000#16 ∧ wordAt 0xFFC t = 0xFFE#16 ∧ t.gpr.bp = 0xFFE#16 ∧ t.gpr.sp = 0xFFC#16 := by decide +kernel
theorem test_V7_repInsb :
    let t := after (step (code [0xF3, 0x6C] (regs [(.cx, 2), (.dx, 0x60), (.di, 0x300)] (base .v20))))
    wordAt 0x300 t = 0xFFFF#16 ∧ t.gpr.di = 0x302#16 ∧ t.gpr.cx = 0#16 := by decide +kernel

theorem test_X2_interruptBeforeHlt :
    let t := after (step (code [0xF4] (fl 0x202 (regs [(.sp, 0x1000)] (data 32 [0x00, 0x05] (data 0x500 [0x90]
      { base .i8088 with pic := some [some 8#8] }))))))
    t.ip = 0x501#16 ∧ t.gpr.sp = 0xFFA#16 ∧ t.flags = 2#16 ∧ wordAt 0xFFA t = 0x100#16 := by decide +kernel
theorem test_X5_divideFaultRollsBack :
    let t := after (step (code [0x2E, 0xF6, 0x36, 0x00, 0x02] (regs [(.sp, 0x1000), (.ax, 5)] (data 0 [0x00, 0x03] (base .i8088)))))
    t.ip = 0x300#16 ∧ t.gpr.ax = 5#16 ∧ wordAt 0xFFA t = 0x100#16 := by decide +kernel
theorem test_X7_softHandler :
    let t := after (exec (.intIb 0x21#8) (fl 0x202 { base .i8088 with
      softInt := [{ vector := 0x21#8, replies := [], after := { ops := [.setReg .ax 0x55#16], result := .ok } }] }))
    t.gpr.ax = 0x55#16 ∧ t.gpr.sp = 0#16 ∧ t.flags = 2#16 := by decide +kernel
theorem test_Z1_hostReset : hostReset State.reset = State.reset := by decide +kernel
theorem test_Z2_firstStep :
    let t := after (step (code [0xEA, 0x5B, 0xE0, 0x00, 0xF0] State.reset))
    t.seg.cs = 0xF000#16 ∧ t.ip = 0xE05B#16 := by decide +kernel

/-! ### States and operands that meet the hypotheses of the obligations -/

/-- For every statement whose hypotheses are `s.mem.wf = true` alone: MovRows, XchgRowsExchange, AluRows, UnaryRows,
CallAndReturnRows; and the width hypothesis of the flag and shift statements. -/
theorem witness_wellFormedMemory : State.reset.mem.wf = true ∧ (code [0x90] State.reset).mem.wf = true := by decide +kernel
theorem witness_operandWidths : (8 = 8 ∨ 8 = 16) ∧ (16 = 8 ∨ 16 = 16) := by decide

theorem witness_HostResetState : ∀ p ∈ State.reset.peripherals, p.resetOps = [] := by decide

theorem reset_inv : Inv State.reset := by constructor <;> decide

/-- A RAM device and the ranges it asks for. -/
def ramAt (lo hi : Nat) : Fitting :=
  { device := { kind := .ram, ticks := [], resetOps := [], closeError := none }, memory := [(lo, hi)], io := [] }
/-- A device at two ports. -/
def portsAt (lo hi : Nat) : Fitting :=
  { device := { kind := .opaqueDev, ticks := [], resetOps := [], closeError := none }, memory := [], io := [(lo, hi)] }
/-- A platform. -/
def platformOf (l : List Fitting) : Platform :=
  { fittings := l, launch := [], softInt := [], pic := none, cpuMode := .v20, wordWrap := .segment }

theorem witness_Boot_memoryClash :
    let p := platformOf [ramAt 0 0xFF, ramAt 0xFF 0x200]
    p.fittings[0]? = some (ramAt 0 0xFF) ∧ p.fittings[1]? = some (ramAt 0xFF 0x200) ∧ (0 : Nat) ≠ 1 ∧
    (0, 0xFF) ∈ (ramAt 0 0xFF).memory ∧ (0xFF, 0x200) ∈ (ramAt 0xFF 0x200).memory ∧
    0 ≤ 0xFF ∧ 0xFF ≤ 0xFF ∧ 0xFF ≤ 0x200 := by decide
theorem witness_Boot_portClash :
    let p := platformOf [portsAt 0x60 0x64, portsAt 0x64 0x65]
    p.fittings[0]? = some (portsAt 0x60 0x64) ∧ p.fittings[1]? = some (portsAt 0x64 0x65) ∧
    (0x60, 0x64) ∈ (portsAt 0x60 0x64).io ∧ (0x64, 0x65) ∈ (portsAt 0x64 0x65).io ∧ 0x60 ≤ 0x64 ∧ 0x64 ≤ 0x65 := by decide
theorem witness_Boot_boots : isNext (boot (platformOf [ramAt 0 0xFFFFF, portsAt 0x60 0x64])) = true := by decide +kernel

theorem witness_SixBytesAlwaysDecode : 6 ≤ ([0x90#8, 0#8, 0#8, 0#8, 0#8, 0#8] : List Byte).length := by decide
theorem witness_DecodeOfEncode :
    Instr.wellFormed .v20 (.enterIwIb 4#16 1#8) = true ∧ Instr.wellFormed .i8088 .illegalI8088xC8 = true := by decide
theorem witness_EncodeOfDecode :
    decode .v20 [0x90#8] = .ok (.nop, []) ∧ Instr.nop ∉ illegalRows := by decide +kernel

/-- NOP placed where the reset state fetches. -/
def nopState : State := code [0x90] State.reset

theorem nopState_nothingDue : NothingDue nopState := by unfold NothingDue; decide +kernel

theorem witness_StepRunsDecodedInstruction :
    DecodesFrom nopState (decodeStart nopState) ∧
    decode nopState.cpuMode (fetchBytes 6 (decodeStart nopState)).1 = .ok (.nop, [0#8, 0#8, 0#8, 0#8, 0#8]) ∧
    Instr.nop.isPrefix = false := ⟨.inl ⟨nopState_nothingDue, rfl⟩, by decide +kernel, rfl⟩
/-- The same bytes with a prefix loop under way. -/
theorem witness_StepRunsDecodedInstruction_resumed :
    let s := { nopState with signal := .decoding, dec := { start := 0#16, segOverride := some .es, rep := .off } }
    DecodesFrom s (resumeDecode s) ∧
    decode s.cpuMode (fetchBytes 6 (resumeDecode s)).1 = .ok (.nop, [0#8, 0#8, 0#8, 0#8, 0#8]) ∧
    (after (step s)).icount = 1#64 ∧ (after (step s)).signal = .ok ∧ (after (step s)).dec.segOverride = some .es :=
  ⟨.inr ⟨rfl, rfl⟩, by decide +kernel⟩
/-- Interrupts enabled and the controller asked, with nothing pending. -/
theorem witness_NothingDue_polled :
    NothingDue (fl 0x202 nopState) ∧ NothingDue { fl 0x202 nopState with pic := some [none, some 8#8] } := by
  unfold NothingDue; decide +kernel

theorem witness_StepRunsPrefixedEncoding :
    let s := code [0x26, 0xF0, 0xA0, 0x34, 0x12] State.reset
    let ps := [Instr.prefixEs, Instr.prefixLock]
    DecodesFrom s (decodeStart s) ∧ (∀ p ∈ ps, p.isPrefix = true) ∧ ps.length < 65536 ∧ (Instr.movAlOb 0x1234#16).isPrefix = false ∧
    (Instr.movAlOb 0x1234#16).wellFormed s.cpuMode = true ∧
    CodeAt s s.ip (ps.flatMap encode ++ encode (.movAlOb 0x1234#16)) := by
  refine ⟨.inl ⟨by unfold NothingDue; decide +kernel, rfl⟩, by decide, by decide, rfl, by decide, ?_⟩
  refine ⟨?_, ?_, ?_, ?_, ?_, trivial⟩ <;> decide +kernel

/-- `k` bytes of LOCK prefixes from linear address `lo` on. -/
def locks : Nat → Nat → Memory
  | 0, _ => []
  | k + 1, lo => (lo, 0xF0#8) :: locks k (lo + 1)

theorem locks_read (k lo a : Nat) (h : lo ≤ a ∧ a < lo + k) : (locks k lo).read a = 0xF0#8 := by
  induction k generalizing lo with
  | zero => omega
  | succ k ih =>
    simp only [locks, Memory.read]
    split
    · rfl
    · exact ih (lo + 1) (by omega)

/-- Code segment 0 holds LOCK prefixes and nothing else. -/
def lockState : State := { base .v20 with mem := locks 65536 0 }

theorem lockState_codeAt (n : Nat) (ip : Word) : CodeAt lockState ip (List.replicate n 0xF0#8) := by
  induction n generalizing ip with
  | zero => trivial
  | succ n ih =>
    refine ⟨?_, ih _⟩
    have hl : (lin (0#16 : Word) ip).toNat = ip.toNat := by
      simp only [lin]
      have := ip.isLt
      simp
      omega
    have hk : kindAt lockState (lin 0#16 ip) = some .ram := by
      have : slotAt lockState.memTable (lin (0#16 : Word) ip).toNat = 1 := by
        have := (lin (0#16 : Word) ip).isLt
        simp only [slotAt, lockState, base, State.reset, List.find?]
        rw [show (decide (0 ≤ (lin (0#16 : Word) ip).toNat) && decide ((lin (0#16 : Word) ip).toNat ≤ 0xFFFFF)) = true by
          simp; omega]
      unfold kindAt
      rw [this]
      rfl
    show peek lockState (lin 0#16 ip) = some 0xF0#8
    unfold peek
    rw [hk]
    show some ((locks 65536 0).read _) = _
    rw [hl, locks_read _ _ _ ⟨Nat.zero_le _, by have := ip.isLt; omega⟩]

theorem witness_StepRunsPrefixedEncoding_noCountLimit :
    let ps := List.replicate 65536 Instr.prefixLock
    DecodesFrom lockState (decodeStart lockState) ∧ (∀ p ∈ ps, p.isPrefix = true) ∧ ps.length = 65536 ∧
    CodeAt lockState lockState.ip (ps.flatMap encode) := by
  refine ⟨.inl ⟨⟨by decide, rfl, .inr (.inl (by decide))⟩, rfl⟩, fun p hp => ?_, List.length_replicate, ?_⟩
  · rw [List.eq_of_mem_replicate hp]; rfl
  · have h : (List.replicate 65536 Instr.prefixLock).flatMap encode = List.replicate 65536 0xF0#8 := by
      rw [List.flatMap_replicate]
      show (List.replicate 65536 [0xF0#8]).flatten = _
      rw [List.flatten_replicate_singleton]
    rw [h]
    exact lockState_codeAt _ _

/-- The prefix loop cut after two prefixes goes on with what it has recorded. -/
theorem test_prefixLoopGoesOn :
    let s := beginDecode (code [0x26, 0xF3, 0x36, 0x90] (base .v20))
    let t := after (runDecoded 2 s)
    t.signal = .decoding ∧ t.ip = 0x102#16 ∧ t.icount = 0#64 ∧ t.dec = ⟨0x100#16, some .es, .repe⟩ ∧
    (after (step t)).dec = ⟨0x100#16, some .ss, .repe⟩ ∧ (after (step t)).ip = 0x104#16 ∧
    (after (step t)).icount = 1#64 ∧ (after (step t)).signal = .ok := by decide +kernel

/-- StepKeepsInv, StepKeepsPlatformAndCounts, StepIgnoresOldDecodeState. -/
theorem witness_stepNext :
    Inv State.reset ∧ nopState.signal ≠ .decoding ∧ Signal.halt ≠ .decoding ∧
    step nopState = .next (after (step nopState)) :=
  ⟨reset_inv, by decide, by decide, eq_next (by decide +kernel)⟩
theorem witness_StepKeepsInv : Inv nopState := by constructor <;> decide +kernel

theorem witness_LatchedTrapTakesVectorOne :
    let s := { nopState with trap := true }
    s.signal ≠ .decoding ∧ s.mem.wf = true ∧ s.trap = true ∧ NoHandler 1#8 s := by unfold NoHandler; decide +kernel

theorem witness_Controller_asked :
    let s := { fl 0x202 nopState with pic := some [some 8#8] }
    s.signal ≠ .decoding ∧ s.mem.wf = true ∧ s.trap = false ∧ flag .trap s = false ∧ flag .interrupt s = true ∧ s.pic = some [some 8#8] ∧
    NoHandler 8#8 s := by unfold NoHandler; decide +kernel
theorem witness_Controller_notAsked :
    flag .interrupt nopState = false ∧ isNext (step nopState) = true ∧
    flag .trap (fl 0x302 nopState) = true ∧ isNext (step (fl 0x302 nopState)) = true ∧
    isNext (step { fl 0x202 nopState with trap := true }) = true ∧
    isNext (step { fl 0x202 nopState with signal := .decoding, pic := some [some 8#8] }) = true := by decide +kernel

/-- A peripheral whose first tick returns error 7. -/
def failing : Peripheral := { kind := .ram, ticks := [{ ops := [], error := some 7 }], resetOps := [], closeError := none }

theorem witness_TickPhase_noError : ∀ p ∈ State.reset.peripherals, p.nextTick.1.error = none := by decide
theorem witness_TickPhase_error :
    let s := { State.reset with peripherals := State.reset.peripherals ++ [failing] ++ State.reset.peripherals }
    s.peripherals[1]? = some failing ∧ failing.nextTick.1.error = some 7 ∧
    (∀ (j : Nat) (q : Peripheral), j < 1 → s.peripherals[j]? = some q → q.nextTick.1.error = none) := by
  refine ⟨rfl, rfl, fun j q hj hq => ?_⟩
  obtain rfl : j = 0 := by omega
  cases hq
  rfl

theorem witness_EveryInstructionCompletes :
    (base .v20).softInt = [] ∧ (base .v20).dec.rep = .off ∧ Instr.pusha ∉ baselineIllegalRows ∧
    (base .i8088).softInt = [] ∧ (base .i8088).dec.rep = .off ∧ Instr.movsb ∉ illegalRows ∧
    Instr.movsb ∉ baselineIllegalRows ∧ isV20Row .movsb = false := by decide +kernel

/-- ExecKeepsHiddenState, ControlFlagsChangeOnlyByTheirInstructions. -/
theorem witness_execNext :
    State.reset.softInt = [] ∧ exec .nop State.reset = .next State.reset ∧ Instr.nop ≠ .popf ∧ Instr.nop ≠ .iret ∧
    Instr.nop ≠ .cld ∧ Instr.nop ≠ .std ∧ Instr.nop ≠ .cli ∧ Instr.nop ≠ .sti ∧ Instr.nop ≠ .hlt ∧
    Instr.nop.isPrefix = false := ⟨rfl, rfl, by decide, by decide, by decide, by decide, by decide, by decide, by decide, rfl⟩
/-- A row that enters an interrupt, from a state with TF and IF set. -/
theorem witness_ControlFlags_entry :
    let s := fl 0x302 (base .v20)
    s.softInt = [] ∧ CanEnterInterrupt .int3 ∧ exec .int3 s = .next (after (exec .int3 s)) ∧
    flag .trap s = true ∧ flag .trap (after (exec .int3 s)) = false :=
  ⟨rfl, .inr (.inl rfl), eq_next (by decide +kernel), by decide +kernel, by decide +kernel⟩

theorem witness_AddressesWrapAndTakeTheirSegment :
    State.reset.dec.segOverride = none ∧ (after (exec .prefixEs State.reset)).dec.segOverride = some .es := by decide

/-- A state with RAM below 10000h, ROM at 10000h, an `Opaque` device at 20000h and ports 60h and 61h, nothing elsewhere. -/
def mixed : State :=
  { base .v20 with
    peripherals := [{ kind := .ram, ticks := [], resetOps := [], closeError := none },
      { kind := .rom, ticks := [], resetOps := [], closeError := none },
      { kind := .opaqueDev, ticks := [], resetOps := [], closeError := none }],
    memTable := [{ lo := 0x20000, hi := 0x2FFFF, slot := 3 }, { lo := 0x10000, hi := 0x1FFFF, slot := 2 },
      { lo := 0, hi := 0xFFFF, slot := 1 }],
    ioTable := [{ lo := 0x60, hi := 0x61, slot := 3 }] }

theorem witness_MemoryAccessByDeviceKind :
    mixed.mem.wf = true ∧ kindAt mixed 0x30000#20 = none ∧ kindAt mixed 0xFFFF#20 = some .ram ∧
    kindAt mixed 0x10000#20 = some .rom ∧ kindAt mixed 0x20000#20 = some .opaqueDev ∧
    (0x10000#20 : Addr) ≠ 0xFFFF#20 ∧ kindAt mixed 0x10000#20 ≠ some .opaqueDev ∧
    IsRam mixed (lin 0#16 0xFFFF#16) ∧ IsRam mixed (hiAddr mixed.wordWrap 0#16 0xFFFF#16) ∧
    (∀ p ∈ [(0x3000#16, none), (0x1000#16, some MemKind.rom), (0x2000#16, some MemKind.opaqueDev)],
      kindAt mixed (lin p.1 0xFFFF#16) = p.2 ∧ kindAt mixed (hiAddr mixed.wordWrap p.1 0xFFFF#16) = p.2) :=
  ⟨by decide +kernel, by decide +kernel, by decide +kernel, by decide +kernel, by decide +kernel, by decide +kernel,
    by decide +kernel, by decide +kernel, by decide +kernel, forall_mem_of_all (by decide +kernel)⟩
/-- Ports 60h and 61h are mapped: words at FFFFh, 5Fh, 61h and 60h meet the four clauses. -/
theorem witness_PortAccessLowPortFirst :
    ([0xFFFF#16, 0x5F#16, 0x61#16, 0x60#16].map fun p : Word =>
      (slotAt mixed.ioTable p.toNat, slotAt mixed.ioTable (p + 1#16).toNat)) = [(0, 0), (0, 3), (3, 0), (3, 3)] := by
  decide +kernel
theorem witness_PopUndoesPush :
    mixed.mem.wf = true ∧
    ∀ c ∈ wordCells mixed.wordWrap mixed.seg.ss (mixed.gpr.sp - 2#16) 0x1234#16, IsRam mixed c.1 :=
  ⟨by decide +kernel, forall_mem_of_all (by decide +kernel)⟩
theorem witness_OpaqueDeviceSeesEachAccessOnce :
    let s := segs [(.ds, 0x2000)] mixed
    (0x20000#20 : Addr) = lin (eaSegment (.direct 0#16) s) (eaOffset (.direct 0#16) s) ∧
    kindAt s 0x20000#20 = some .opaqueDev ∧ 3 = slotAt s.memTable (0x20000#20 : Addr).toNat ∧ AluOp.add ≠ .cmp ∧
    effectiveCount s.cpuMode (reg8 .cl s) = 0 := by decide +kernel
theorem witness_PushRows : (base .v20).mem.wf = true ∧ (base .v20).cpuMode = .v20 := by decide
theorem witness_PopRows :
    (base .v20).mem.wf = true ∧ 0#16 = (memRead16 (base .v20).seg.ss (base .v20).gpr.sp (base .v20)).1 := by decide +kernel

/-- Boundary quotients: FFh, FFFFh, 127 and -128 in `V20` mode, -127 in `I8088` mode. -/
theorem witness_DivideRows :
    (let s := regs [(.ax, 0x00FF), (.bx, 1)] (base .v20);
      value8 (.reg .bl) s ≠ 0#8 ∧ s.gpr.ax.toNat / (value8 (.reg .bl) s).toNat = 0xFF) ∧
    (let s := regs [(.ax, 0xFFFF), (.bx, 1)] (base .v20);
      value16 (.reg .bx) s ≠ 0#16 ∧ (s.gpr.dx ++ s.gpr.ax).toNat / (value16 (.reg .bx) s).toNat = 0xFFFF) ∧
    (let s := regs [(.ax, 0xFF80), (.bx, 1)] (base .v20);
      value8 (.reg .bl) s ≠ 0#8 ∧ s.gpr.ax.toInt.tdiv (value8 (.reg .bl) s).toInt = -128) ∧
    (let s := regs [(.ax, 0xFF81), (.bx, 1)] (base .i8088);
      value8 (.reg .bl) s ≠ 0#8 ∧ s.gpr.ax.toInt.tdiv (value8 (.reg .bl) s).toInt = -127) ∧
    (let s := regs [(.ax, 127), (.bx, 1)] (base .i8088);
      value8 (.reg .bl) s ≠ 0#8 ∧ s.gpr.ax.toInt.tdiv (value8 (.reg .bl) s).toInt = 127) ∧
    (let s := regs [(.dx, 0xFFFF), (.ax, 0x8000), (.bx, 1)] (base .v20);
      value16 (.reg .bx) s ≠ 0#16 ∧ (s.gpr.dx ++ s.gpr.ax).toInt.tdiv (value16 (.reg .bx) s).toInt = -32768) := by
  decide +kernel
/-- One past the boundary, and a divisor of 0. -/
theorem witness_DivideFaultTakesVectorZero :
    (base .v20).mem.wf = true ∧ NoHandler 0#8 (base .v20) ∧ value8 (.reg .bl) (base .v20) = 0#8 ∧
    value16 (.reg .bx) (base .v20) = 0#16 ∧
    (let s := regs [(.ax, 0x100), (.bx, 1)] (base .v20); 0xFF < s.gpr.ax.toNat / (value8 (.reg .bl) s).toNat) ∧
    (let s := regs [(.dx, 1), (.bx, 1)] (base .v20);
      0xFFFF < (s.gpr.dx ++ s.gpr.ax).toNat / (value16 (.reg .bx) s).toNat) ∧
    (let s := regs [(.ax, 128), (.bx, 1)] (base .v20); 127 < s.gpr.ax.toInt.tdiv (value8 (.reg .bl) s).toInt) ∧
    (let s := regs [(.ax, 0xFF80), (.bx, 1)] (base .i8088);
      s.gpr.ax.toInt.tdiv (value8 (.reg .bl) s).toInt < (if s.cpuMode = .v20 then -128 else -127)) ∧
    (let s := regs [(.dx, 0xFFFF), (.ax, 0x8000), (.bx, 1)] (base .i8088);
      (s.gpr.dx ++ s.gpr.ax).toInt.tdiv (value16 (.reg .bx) s).toInt < (if s.cpuMode = .v20 then -32768 else -32767)) := by
  unfold NoHandler; decide +kernel
theorem witness_DecimalAdjustRows :
    let s := regs [(.ax, 0x059A)] (base .v20)
    0x9A#8 = reg8 .al s ∧ 0x05#8 = reg8 .ah s ∧ true = (decide (9 < (0x9A#8 : Byte).toNat % 16) || flag .aux s) ∧
    true = (decide (0x99 < (0x9A#8 : Byte).toNat) || flag .carry s) ∧ (0x0A#8 : Byte) ≠ 0#8 := by decide +kernel
theorem witness_ShiftRows : (base .v20).mem.wf = true ∧ (base .v20).cpuMode = .v20 := by decide

theorem witness_StringRowsRunOnce :
    (base .v20).mem.wf = true ∧ (base .v20).dec.rep = .off ∧ (base .v20).cpuMode = .v20 := by decide
/-- CX = 0, and a primitive that stands at no A4h or 6Ch byte. -/
theorem witness_RepLoopByIteration_ends :
    let s := after (exec .prefixRep (base .v20))
    s.dec.rep ≠ .off ∧ Instr.movsb ∈ stringRows ∧ Instr.insb ∈ ioStringRows ∧ s.cpuMode = .v20 ∧ s.gpr.cx = 0#16 ∧
    (regs [(.cx, 1)] s).gpr.cx ≠ 0#16 ∧
    encode .movsb ≠ [(busRead8 (lin s.seg.cs (s.ip - 1#16)) (regs [(.cx, 1)] s)).1] ∧
    encode .insb ≠ [(busRead8 (lin s.seg.cs (s.ip - 1#16)) (regs [(.cx, 1)] s)).1] := by decide +kernel
/-- REPNE SCASW with its byte at 0FFh: a match leaves the loop, CX = FFFFh. -/
theorem witness_RepLoopByIteration_iterates :
    let s := regs [(.cx, 0xFFFF), (.di, 0x300)] (data 0xFF [0xAF] (after (exec .prefixRepne (base .v20))))
    s.dec.rep ≠ .off ∧ Instr.scasw ∈ stringRows ∧ s.gpr.cx ≠ 0#16 ∧
    encode .scasw = [(busRead8 (lin s.seg.cs (s.ip - 1#16)) s).1] ∧ Instr.scasw ∈ scanRows ∧
    (after (exec .scasw s)).gpr.cx = 0xFFFE#16 ∧ flag .zero (after (exec .scasw s)) = true := by decide +kernel

/-- `REPE CMPSB` at 0FFh with a match and then a mismatch, CX = 2. -/
def compareState : State :=
  regs [(.cx, 2), (.si, 0x200), (.di, 0x300)] (data 0xFF [0xA6] (data 0x200 [1, 2] (data 0x300 [1, 3]
    (after (exec .prefixRep (base .v20))))))

theorem witness_RepeCmpsbStopsAtMismatch :
    compareState.dec.rep = .repe ∧ flag .direction compareState = false ∧ 1 < compareState.gpr.cx.toNat ∧
    peek compareState (lin compareState.seg.cs (compareState.ip - 1#16)) = some 0xA6#8 ∧
    (∀ j, j < 1 → ∃ b, peek compareState (lin (segFor .ds compareState) (compareState.gpr.si + BitVec.ofNat 16 j)) = some b ∧
      peek compareState (lin compareState.seg.es (compareState.gpr.di + BitVec.ofNat 16 j)) = some b) ∧
    (∃ a b, peek compareState (lin (segFor .ds compareState) (compareState.gpr.si + BitVec.ofNat 16 1)) = some a ∧
      peek compareState (lin compareState.seg.es (compareState.gpr.di + BitVec.ofNat 16 1)) = some b ∧ a ≠ b) := by
  refine ⟨by decide +kernel, by decide +kernel, by decide +kernel, by decide +kernel, fun j hj => ?_,
    ⟨2#8, 3#8, by decide +kernel, by decide +kernel, by decide⟩⟩
  obtain rfl : j = 0 := by omega
  exact ⟨1#8, by decide +kernel, by decide +kernel⟩

/-- `REP STOSB` at 0FFh over two bytes at 300h. -/
theorem witness_RepStosbFillsTheBuffer :
    let s := regs [(.cx, 2), (.di, 0x300)] (data 0xFF [0xAA] (after (exec .prefixRep (base .v20))))
    s.mem.wf = true ∧ s.dec.rep ≠ .off ∧ flag .direction s = false ∧
    peek s (lin s.seg.cs (s.ip - 1#16)) = some 0xAA#8 ∧
    (∀ j, j < s.gpr.cx.toNat → lin s.seg.es (s.gpr.di + BitVec.ofNat 16 j) ≠ lin s.seg.cs (s.ip - 1#16)) := by
  decide +kernel

theorem witness_JumpAndLoopRows : 0xFFFF#16 = (base .v20).gpr.cx - 1#16 := by decide

theorem witness_SoftwareInterruptRows :
    (base .v20).mem.wf = true ∧ NoHandler 3#8 (base .v20) ∧ NoHandler 0xFF#8 (base .v20) ∧
    NoHandler 4#8 (fl 0x802 (base .v20)) ∧ flag .overflow (fl 0x802 (base .v20)) = true ∧
    flag .overflow (base .v20) = false := by unfold NoHandler; decide +kernel

/-- A state with one handler, for vector 21h, without effects of its own. -/
def handled (r : HandlerResult) : State :=
  { base .v20 with softInt := [{ vector := 0x21#8, replies := [], after := { ops := [], result := r } }] }

/-- The state a handler without effects leaves is the one it starts from, its list used up. -/
theorem witness_SoftHandlerReplacesTheVectorTable :
    handled .ok = runHandlerOps [] { handled .ok with softInt := (handled .ok).softInt } ∧ (base .v20).mem.wf = true ∧
    nextReply 0x21#8 (handled .ok).softInt = some ({ ops := [], result := .ok }, (handled .ok).softInt) ∧
    nextReply 0x21#8 (handled .notHandled).softInt = some ({ ops := [], result := .notHandled }, (handled .notHandled).softInt) ∧
    nextReply 0x21#8 (handled (.error 3)).softInt = some ({ ops := [], result := .error 3 }, (handled (.error 3)).softInt) := by
  decide +kernel

theorem witness_IretUndoesInterruptEntry_pops :
    let s := regs [(.sp, 0xFFA)] (data 0xFFA [0x00, 0x02, 0x34, 0x12, 0x02, 0x01] (base .v20))
    peekWord s s.seg.ss s.gpr.sp = some 0x200#16 ∧ peekWord s s.seg.ss (s.gpr.sp + 2#16) = some 0x1234#16 ∧
    peekWord s s.seg.ss (s.gpr.sp + 4#16) = some 0x102#16 := by decide +kernel
theorem witness_IretUndoesInterruptEntry_entry :
    let s := regs [(.sp, 0x1000)] (base .v20)
    s.mem.wf = true ∧ NoHandler 0x21#8 s ∧
    (∀ k ∈ [2#16, 4#16, 6#16], IsRam s (lin s.seg.ss (s.gpr.sp - k)) ∧ IsRam s (hiAddr s.wordWrap s.seg.ss (s.gpr.sp - k))) ∧
    isNext (exec (.intIb 0x21#8) s) = true :=
  ⟨by decide +kernel, by unfold NoHandler; decide +kernel, forall_mem_of_all (by decide +kernel), by decide +kernel⟩

theorem witness_PushaAndPopa :
    let s := regs [(.sp, 0x1000)] (base .v20)
    s.cpuMode = .v20 ∧ s.mem.wf = true ∧
    (∀ k ∈ [2#16, 4#16, 6#16, 8#16, 10#16, 12#16, 14#16, 16#16], IsRam s (lin s.seg.ss (s.gpr.sp - k)) ∧
      IsRam s (hiAddr s.wordWrap s.seg.ss (s.gpr.sp - k))) ∧
    isNext (exec .pusha s) = true ∧
    (∀ p ∈ [(0#16, Reg16.di), (2#16, .si), (4#16, .bp), (6#16, .sp), (8#16, .bx), (10#16, .dx), (12#16, .cx), (14#16, .ax)],
      peekWord s s.seg.ss (s.gpr.sp + p.1) = some ((fun _ => 0#16) p.2)) :=
  ⟨rfl, by decide +kernel, forall_mem_of_all (by decide +kernel), by decide +kernel, forall_mem_of_all (by decide +kernel)⟩

/-- ENTER with level 2: the frame pointer below BP = 2000h is copied, SP = 1000h. -/
theorem witness_EnterAndLeave :
    let s := regs [(.sp, 0x1000), (.bp, 0x2000)] (data 0x1FFE [0x34, 0x12] (base .v20))
    s.cpuMode = .v20 ∧ s.mem.wf = true ∧ 2 = (0x22#8 : Byte).toNat % 32 ∧
    (∀ k, 1 ≤ k → k < 2 → peekWord s s.seg.ss (s.gpr.bp - BitVec.ofNat 16 (2 * k)) = some ((fun _ => 0x1234#16) k)) ∧
    (∀ k j, 1 ≤ k → k < 2 → j ≤ 2 →
      ∀ c ∈ wordCells s.wordWrap s.seg.ss (s.gpr.bp - BitVec.ofNat 16 (2 * k)) 0#16,
      ∀ d ∈ wordCells s.wordWrap s.seg.ss (s.gpr.sp - BitVec.ofNat 16 (2 * (j + 1))) 0#16, c.1 ≠ d.1) ∧
    IsRam s (lin s.seg.ss (s.gpr.sp - 2#16)) ∧ IsRam s (hiAddr s.wordWrap s.seg.ss (s.gpr.sp - 2#16)) ∧
    isNext (exec (.enterIwIb 8#16 0x22#8) s) = true := by
  refine ⟨rfl, by decide +kernel, rfl, fun k h1 h2 => ?_, fun k j h1 h2 h3 => ?_, by unfold IsRam; decide +kernel, by
    unfold IsRam; decide +kernel, by decide +kernel⟩
  · obtain rfl : k = 1 := by omega
    decide +kernel
  · obtain rfl : k = 1 := by omega
    have hj : j = 0 ∨ j = 1 ∨ j = 2 := by omega
    rcases hj with rfl | rfl | rfl <;> exact forall_mem₂_of_all (by decide +kernel)

/-- BOUND at its lower bound, and one below and one above. -/
theorem witness_ImulImmediateAndBound :
    let s := data 0x200 [0x05, 0x00, 0x10, 0x00] (base .v20)
    let lo := (memRead16 (eaSegment (.direct 0x200#16) s) (eaOffset (.direct 0x200#16) s) s).1
    let hi := (memRead16 (eaSegment (.direct 0x200#16) s) (eaOffset (.direct 0x200#16) s + 2#16) s).1
    s.cpuMode = .v20 ∧ s.mem.wf = true ∧ NoHandler 5#8 s ∧ lo = 5#16 ∧ hi = 16#16 ∧
    (lo.toInt ≤ (reg16 .ax (regs [(.ax, 5)] s)).toInt ∧ (reg16 .ax (regs [(.ax, 5)] s)).toInt ≤ hi.toInt) ∧
    (reg16 .ax (regs [(.ax, 4)] s)).toInt < lo.toInt ∧ hi.toInt < (reg16 .ax (regs [(.ax, 17)] s)).toInt := by
  unfold NoHandler; decide +kernel

theorem witness_IllegalEncodingTakesVectorSix :
    (base .v20).cpuMode = .v20 ∧ (base .v20).mem.wf = true ∧ NoHandler 6#8 (base .v20) ∧ Instr.illegal0F ∈ illegalRows := by
  unfold NoHandler; decide +kernel
theorem witness_IllegalEncodingStopsWithDebugBreak :
    Instr.illegalI8088x60 ∈ baselineIllegalRows ∧ (base .i8088).cpuMode = .i8088 ∧ Instr.illegal0F ∈ illegalRows ∧
    isV20Row .pusha = true := by decide +kernel

end Sys2Proof.Tests
end

namespace Sys2Proof.Machine

section completion

open Sys2Proof.Rows

variable {s : State}

/-! ### The shared operations that could stop, where they do not (60_exceptions.md R510, R520, R522) -/

theorem noHandler_of_softInt_nil (n : Byte) (h : s.softInt = []) : NoHandler n s := by
  unfold NoHandler
  rw [h]
  rfl

theorem doInterrupt_completes (n : Byte) (h : s.softInt = []) : ∃ t, doInterrupt n s = .next t :=
  ⟨_, doInterrupt_of_noHandler (noHandler_of_softInt_nil n h)⟩

theorem divideFault_completes (h : s.softInt = []) : ∃ t, divideFault s = .next t := doInterrupt_completes 0#8 h

theorem boundFault_completes (h : s.softInt = []) : ∃ t, boundFault s = .next t := doInterrupt_completes 5#8 h

theorem illegalEncoding_completes (hv : s.cpuMode = .v20) (h : s.softInt = []) : ∃ t, illegalEncoding s = .next t := by
  unfold illegalEncoding
  rw [hv]
  exact doInterrupt_completes 6#8 h

/-- In `V20` mode a row of that mode has its meaning (46_v20_extensions.md R470). -/
theorem v20Only_of_v20 (k : State → Res) (hv : s.cpuMode = .v20) : v20Only s k = k s := by
  unfold v20Only
  rw [hv]

/-- A row of `V20` mode that has no way to stop. -/
theorem v20Only_next {f : State → State} (hv : s.cpuMode = .v20) : v20Only s (fun s => .next (f s)) = .next (f s) :=
  v20Only_of_v20 _ hv

/-- Without a REP-class prefix a repeatable primitive runs once (43_string.md R370). -/
theorem stringInstr_of_repOff (opcode : Byte) (scan : Bool) (once : State → State) (h : s.dec.rep = .off) :
    stringInstr opcode scan once s = .next (once s) := by
  unfold stringInstr
  rw [h]

theorem ite_completes {c : Prop} [Decidable c] {a b : Res} (ha : ∃ t, a = .next t) (hb : ∃ t, b = .next t) :
    ∃ t, (if c then a else b) = .next t := by
  split
  · exact ha
  · exact hb

theorem boundCheck_completes (g : Reg16) (m : MemOp) (h : s.softInt = []) : ∃ t, boundCheck g m s = .next t :=
  ite_completes (boundFault_completes (by simpa using h)) ⟨_, rfl⟩

/-! ### The rows, by mode -/

/-- An illegal row of both modes is an illegal encoding (30_encoding.md R140, R141). -/
theorem exec_of_mem_illegalRows {i : Instr} (hi : i ∈ illegalRows) : exec i s = illegalEncoding s := by
  revert i
  simp only [illegalRows, List.forall_mem_append, List.forall_mem_cons, List.not_mem_nil, false_imp_iff, implies_true,
    and_true]
  and_intros <;> rfl

/-- In `V20` mode a row of that mode has its meaning (46_v20_extensions.md R470): BOUND may enter interrupt 5, INS and OUTS run
once, the others have no way to stop. -/
theorem exec_v20Row_completes {i : Instr} (hi : isV20Row i = true) (hv : s.cpuMode = .v20) (hs : s.softInt = [])
    (hr : s.dec.rep = .off) : ∃ t, exec i s = .next t := by
  cases i <;> cases hi
  case boundGvMa g m => exact (boundCheck_completes g m hs).imp fun _ => (v20Only_of_v20 _ hv).trans
  case insb | insw | outsb | outsw => exact ⟨_, (v20Only_of_v20 _ hv).trans (stringInstr_of_repOff _ _ _ hr)⟩
  all_goals exact ⟨_, v20Only_next hv⟩

/-- A row of both modes that is not illegal. Most answer a next state outright; the rows named here are those that can enter an
interrupt (60_exceptions.md R510, R520) and the repeatable primitives (43_string.md R370). The hypotheses exclude the others. -/
theorem exec_commonRow_completes {i : Instr} (hi : i ∉ illegalRows) (hb : i ∉ baselineIllegalRows)
    (h20 : isV20Row i = false) (hs : s.softInt = []) (hr : s.dec.rep = .off) : ∃ t, exec i s = .next t := by
  cases i <;> try exact ⟨_, rfl⟩
  case int3 | intIb => exact doInterrupt_completes _ hs
  case into => exact ite_completes (doInterrupt_completes 4#8 hs) ⟨s, rfl⟩
  case aamIb v => exact ite_completes (divideFault_completes hs) ⟨_, rfl⟩
  case divEb | divEv | idivEb | idivEv =>
    exact ite_completes (divideFault_completes (by simpa using hs))
      (ite_completes (divideFault_completes (by simpa using hs)) ⟨_, rfl⟩)
  case movsb | movsw | cmpsb | cmpsw | stosb | stosw | lodsb | lodsw | scasb | scasw =>
    exact ⟨_, stringInstr_of_repOff _ _ _ hr⟩
  all_goals simp only [illegalRows, baselineIllegalRows, isV20Row, List.mem_append, List.mem_cons, true_or, or_true,
    not_true_eq_false, Bool.true_eq_false] at hi hb h20

/-- The one condition on the mode: a row that is illegal in `I8088` mode, or that only `V20` mode has, runs in `V20` mode. -/
theorem exec_completes {i : Instr} (hs : s.softInt = []) (hr : s.dec.rep = .off) (hb : i ∉ baselineIllegalRows)
    (hm : s.cpuMode = .v20 ∨ i ∉ illegalRows ∧ isV20Row i = false) : ∃ t, exec i s = .next t := by
  by_cases hi : i ∈ illegalRows
  · rw [exec_of_mem_illegalRows hi]
    exact illegalEncoding_completes (hm.resolve_right fun h => h.1 hi) hs
  · cases h20 : isV20Row i with
    | true => exact exec_v20Row_completes h20 (hm.resolve_right fun h => by simp [h.2] at h20) hs hr
    | false => exact exec_commonRow_completes hi hb h20 hs hr

end completion

/-- Settles O16, by the row's class: illegal, of `V20` mode, or of both modes. -/
theorem everyInstructionCompletes : Obligations.EveryInstructionCompletes :=
  ⟨fun _ _ hv hs hr hb => exec_completes hs hr hb (.inl hv),
    fun _ _ _ hs hr hi hb h20 => exec_completes hs hr hb (.inr ⟨hi, h20⟩)⟩

end Sys2Proof.Machine

namespace Sys2Proof.Machine

section execEffect

open Sys2Proof.Rows

/-! ### Entering an interrupt -/

/-- `t` is `s` but for IP and the device record: as far as an instruction gets before it enters an interrupt. -/
def Untouched (s t : State) : Prop := SameSystem s t ∧ SameData s t ∧ t.flags = s.flags

theorem Untouched.refl (s : State) : Untouched s s := ⟨.refl s, ⟨rfl, rfl, rfl⟩, rfl⟩

theorem untouched_rollBack (s : State) : Untouched s (rollBack s) := ⟨by simp [sameSystem_iff], ⟨rfl, rfl, rfl⟩, rfl⟩

theorem untouched_rollBack_readLoc8 (l : Loc8) (s : State) : Untouched s (rollBack (readLoc8 l s).2) :=
  ⟨by simp [sameSystem_iff], by simp [SameData], by simp⟩

theorem untouched_rollBack_readLoc16 (l : Loc16) (s : State) : Untouched s (rollBack (readLoc16 l s).2) :=
  ⟨by simp [sameSystem_iff], by simp [SameData], by simp⟩

theorem untouched_rollBack_readFar (m : MemOp) (s : State) : Untouched s (rollBack (readFar m s).2) :=
  ⟨by simp [sameSystem_iff], by simp [SameData], by simp⟩

/-- An entry from a state that differs in IP and the device record only is an entry (60_exceptions.md R510). -/
theorem Untouched.entered {s u t : State} {n : Byte} {ret : Word} (h : Untouched s u) (he : Entered n ret u t) :
    Entered n ret s t := by
  obtain ⟨hsys, ⟨hgpr, hseg, hmem⟩, hflags⟩ := h
  obtain ⟨he_sys, he_regs, he_sregs, he_sp, he_stored, he_tf, he_if, he_flags, he_vector⟩ := he
  obtain ⟨-, -, -, -, -, -, -, -, -, -, -, -, hwrap⟩ := sameSystem_iff.1 hsys
  rw [hwrap, hseg, hgpr, hflags] at he_stored
  refine ⟨hsys.trans he_sys, fun r hr => ?_, fun r hr => ?_, by rw [he_sp, hgpr],
    he_stored.congr hmem.symm rfl fun a => (hsys.kindAt a).symm, he_tf, he_if, fun i hi => ?_, he_vector⟩
  · rw [he_regs r hr, reg16_congr hgpr]
  · rw [he_sregs r hr, sreg_congr hseg]
  · rw [he_flags i hi, hflags]

theorem storeFlags_reserved (v : Word) (s : State) : (storeFlags v s).flags.getLsbD 1 = true := by
  rw [storeFlags_flags, getLsbD_storeWord]
  rfl

/-- The effects of a handler keep bit 1 of FLAGS (10_state.md R38; 60_exceptions.md R545). -/
theorem runHandlerOps_reserved (ops : List HandlerOp) {s : State} (h : s.flags.getLsbD 1 = true) :
    (runHandlerOps ops s).flags.getLsbD 1 = true := by
  induction ops generalizing s with
  | nil => exact h
  | cons o os ih =>
    refine ih ?_
    cases o with
    | storeFlags v => exact storeFlags_reserved v s
    | bus b => exact (congrArg (·.getLsbD 1) (runBusOps_frame [b] s).2.2.2.2).trans h
    | setReg _ _ | setSeg _ _ | setIp _ => exact h

theorem clearTfIf_bit (s : State) (i : Nat) :
    (clearTfIf s).flags.getLsbD i = if i = 9 then false else if i = 8 then false else s.flags.getLsbD i := by
  rw [clearTfIf_flags, getLsbD_putFlag, getLsbD_putFlag]
  rfl

theorem vectorThrough_bit (n : Byte) (s : State) (i : Nat) :
    (vectorThrough n s).flags.getLsbD i = if i = 9 then false else if i = 8 then false else s.flags.getLsbD i := by
  rw [vectorThrough, clearTfIf_bit]
  simp

theorem vectorThrough_wf (n : Byte) {s : State} (h : s.mem.wf = true) : (vectorThrough n s).mem.wf = true := by
  simpa [vectorThrough] using push16_wf (push16_wf (push16_wf h _) _) _

/-- An interrupt that is taken runs the effects of a handler, none of them where no handler is installed; then the vector is
entered, or the handler has done the work (60_exceptions.md R510, R511). -/
theorem doInterrupt_eq_next {n : Byte} {s t : State} (h : doInterrupt n s = .next t) :
    ∃ ops hs, t = vectorThrough n (runHandlerOps ops { s with softInt := hs }) ∨
      t = clearTfIf (runHandlerOps ops { s with softInt := hs }) := by
  unfold doInterrupt at h
  split at h
  · exact ⟨[], s.softInt, .inl (Host.Outcome.next.inj h).symm⟩
  · next r hs _ =>
    refine ⟨r.ops, hs, ?_⟩
    dsimp only at h
    split at h
    · exact .inl (Host.Outcome.next.inj h).symm
    · exact .inr (Host.Outcome.next.inj h).symm
    · nomatch h

/-- What an interrupt entry keeps when it completes, handlers included. -/
theorem doInterrupt_frame {n : Byte} {s t : State} (h : doInterrupt n s = .next t) :
    (∃ hs, SameSystem { s with softInt := hs } t) ∧ (s.mem.wf = true → t.mem.wf = true) ∧
      (s.flags.getLsbD 1 = true → t.flags.getLsbD 1 = true) := by
  obtain ⟨ops, hs, h⟩ := doInterrupt_eq_next h
  have hsys := runHandlerOps_system ops { s with softInt := hs }
  have hwf := runHandlerOps_wf ops (s := { s with softInt := hs })
  have hres := runHandlerOps_reserved ops (s := { s with softInt := hs })
  rcases h with rfl | rfl
  · exact ⟨⟨hs, hsys.trans (by simp [sameSystem_iff])⟩, fun hw => vectorThrough_wf n (hwf hw),
      fun hr => (vectorThrough_bit n _ 1).trans (hres hr)⟩
  · exact ⟨⟨hs, hsys.trans (by simp [sameSystem_iff])⟩, hwf, fun hr => (clearTfIf_bit _ 1).trans (hres hr)⟩

/-! ### What an instruction can do -/

/-- What an instruction that answers a next state has done, by the few ways it can reach beyond `Tame`. -/
inductive ExecEffect (i : Instr) (s t : State) : Prop
  /-- Registers, IP, status flags, contents and the device record. -/
  | tame (h : Tame s t)
  /-- POPF and IRET store the popped word (40_data_transfer.md R229; 44_control_transfer.md R426). -/
  | stores (hi : i = .popf ∨ i = .iret) (v : Word) (u : State) (hu : Tame s u) (h : t = storeFlags v u)
  /-- CLI and STI write IF, CLD and STD write DF (45_processor_control.md R443 to R446). -/
  | controls (f : Flag) (b : Bool)
      (hi : f = .interrupt ∧ (i = .cli ∨ i = .sti) ∨ f = .direction ∧ (i = .cld ∨ i = .std)) (h : t = setFlag f b s)
  /-- HLT ends the step with `Halt` (45_processor_control.md R447). -/
  | halts (hi : i = .hlt) (h : t = { setIp (s.ip - 1#16) s with signal := .halt })
  /-- A prefix changes the decode state (30_encoding.md R111). -/
  | decodes (hi : i.isPrefix = true) (d : DecodeState) (h : t = { s with dec := d })
  /-- An interrupt is entered before the instruction has written anything (60_exceptions.md R510, R520, R522). -/
  | enters (hi : CanEnterInterrupt i) (n : Byte) (u : State) (hu : Untouched s u) (h : doInterrupt n u = .next t)

section

variable {s t u v : State} {i : Instr}

/-- A row of `V20` mode that answers a next state has done so by its meaning (46_v20_extensions.md R470). -/
theorem v20Only_eq_next {k : State → Res} (h : v20Only s k = .next t) : k s = .next t := by
  unfold v20Only at h
  split at h
  · cases h
  · exact h

theorem ite_eq_next {c : Prop} [Decidable c] {a b : Res} (h : (if c then a else b) = .next t) :
    a = .next t ∨ b = .next t := by
  split at h
  · exact .inl h
  · exact .inr h

theorem illegalEncoding_eq_next (h : illegalEncoding s = .next t) : invalidOpcode s = .next t := by
  unfold illegalEncoding at h
  split at h
  · cases h
  · exact h

theorem execEffect_of_next (h : Host.Outcome.next u = (.next t : Res)) (hu : Tame s u) : ExecEffect i s t :=
  .tame (Host.Outcome.next.inj h ▸ hu)

/-- The shape of DIV and IDIV: two reasons for the divide fault, or the quotient (41_arithmetic.md R282, R283). -/
theorem execEffect_of_divide (hi : CanEnterInterrupt i) {c c' : Prop} [Decidable c] [Decidable c']
    (hu : Untouched s (rollBack u)) (hv : Tame s v)
    (h : (if c then divideFault u else if c' then divideFault u else .next v) = .next t) : ExecEffect i s t := by
  rcases ite_eq_next h with h | h
  · exact .enters hi _ _ hu h
  · rcases ite_eq_next h with h | h
    · exact .enters hi _ _ hu h
    · exact execEffect_of_next h hv

theorem execEffect_of_stringInstr (opcode : Byte) (scan : Bool) {once : State → State}
    (ho : ∀ {s t : State}, Tame s t → Tame s (once t)) (h : stringInstr opcode scan once s = .next t) :
    ExecEffect i s t :=
  .tame (tame_stringInstr opcode scan ho (.refl s) h)

theorem execEffect_of_boundCheck (g : Reg16) (m : MemOp) (h : boundCheck g m s = .next t) :
    ExecEffect (.boundGvMa g m) s t := by
  rcases ite_eq_next h with h | h
  · exact .enters (by simp [CanEnterInterrupt]) _ _ (untouched_rollBack_readFar m s) h
  · exact execEffect_of_next h (tame_readFar m (.refl s))

theorem execEffect_of_mem_illegalRows (hi : i ∈ illegalRows) (h : exec i s = .next t) : ExecEffect i s t :=
  .enters (.inl hi) 6#8 _ (untouched_rollBack s) (illegalEncoding_eq_next (exec_of_mem_illegalRows hi ▸ h))

theorem execEffect_of_v20Only {f : State → State} (h : v20Only s (fun s => .next (f s)) = .next t)
    (hf : Tame s (f s)) : ExecEffect i s t :=
  execEffect_of_next (v20Only_eq_next (k := fun s => .next (f s)) h) hf

/-- SAHF writes status flags only (40_data_transfer.md R226). -/
theorem tame_sahf {a b c d e : Bool} (h : Tame s t) : Tame s (setFlags
    (putFlag .sign a (putFlag .zero b (putFlag .aux c (putFlag .parity d (putFlag .carry e t.flags))))) t) := by
  refine tame_setFlags (fun i hi => ?_) h
  simp only [isStatusBit, Bool.or_eq_false_iff, beq_eq_false_iff_ne] at hi
  simp [Flag.bit, hi]

theorem negFlags_bit {n : Nat} (a : BitVec n) (fl : Word) {i : Nat} (h : isStatusBit i = false) :
    (negFlags a fl).2.getLsbD i = fl.getLsbD i :=
  subFlags_bit _ _ _ _ h

theorem exec_of_mem_baselineIllegalRows (hi : i ∈ baselineIllegalRows) : exec i s = debugBreakStop s := by
  revert i
  simp only [baselineIllegalRows, List.forall_mem_append, List.forall_mem_cons, List.not_mem_nil, false_imp_iff, implies_true,
    and_true]
  and_intros <;> rfl

/-- A row of `V20` mode is an illegal encoding, BOUND, a repeatable primitive or a composition of shared operations
(46_v20_extensions.md R470 to R481). -/
theorem exec_v20Row_effect (hi : isV20Row i = true) (h : exec i s = .next t) : ExecEffect i s t := by
  cases i <;> cases hi
  case boundGvMa g m => exact execEffect_of_boundCheck g m (v20Only_eq_next h)
  case insb => exact execEffect_of_stringInstr _ _ tame_ins8 (v20Only_eq_next h)
  case insw => exact execEffect_of_stringInstr _ _ tame_ins16 (v20Only_eq_next h)
  case outsb => exact execEffect_of_stringInstr _ _ tame_outs8 (v20Only_eq_next h)
  case outsw => exact execEffect_of_stringInstr _ _ tame_outs16 (v20Only_eq_next h)
  all_goals exact execEffect_of_v20Only h (by simp only [Tame.refl, tame_shift8, tame_shift16, tame_push16, tame_imulImm,
    tame_pushAll, tame_popAll, tame_enterFrame, tame_leaveFrame])

/-- Every row is a composition of the shared operations, each of them `Tame`, but for the illegal rows, those of `V20` mode,
those that can enter an interrupt, the repeatable primitives, and the others that `ExecEffect` names. -/
theorem exec_effect (h : exec i s = .next t) : ExecEffect i s t := by
  by_cases hill : i ∈ illegalRows
  · exact execEffect_of_mem_illegalRows hill h
  by_cases hbase : i ∈ baselineIllegalRows
  · rw [exec_of_mem_baselineIllegalRows hbase] at h
    cases h
  cases hv20 : isV20Row i
  case true => exact exec_v20Row_effect hv20 h
  cases i
  case popf => exact .stores (.inl rfl) _ _ (tame_pop16 (.refl s)) (Host.Outcome.next.inj h).symm
  case iret =>
    exact .stores (.inr rfl) _ _ (tame_farTo _ _ (tame_pop16 (tame_pop16 (tame_pop16 (.refl s)))))
      (Host.Outcome.next.inj h).symm
  case cli | sti | cld | std => exact .controls _ _ (by simp) (Host.Outcome.next.inj h).symm
  case hlt => exact .halts rfl (Host.Outcome.next.inj h).symm
  case prefixEs | prefixCs | prefixSs | prefixDs | prefixRepne | prefixRep =>
    exact .decodes rfl _ (Host.Outcome.next.inj h).symm
  case int3 | intIb => exact .enters (by simp [CanEnterInterrupt]) _ s (.refl s) h
  case into =>
    rcases ite_eq_next h with h | h
    · exact .enters (by simp [CanEnterInterrupt]) _ s (.refl s) h
    · exact execEffect_of_next h (.refl s)
  case aamIb v =>
    rcases ite_eq_next h with h | h
    · exact .enters (by simp [CanEnterInterrupt]) _ _ (untouched_rollBack s) h
    · exact execEffect_of_next h (tame_aamFlags (tame_setReg8 _ _ (tame_setReg8 _ _ (.refl s))))
  case divEb | idivEb =>
    exact execEffect_of_divide (by simp [CanEnterInterrupt]) (untouched_rollBack_readLoc8 _ s)
      (tame_quotient8 _ _ (tame_readLoc8 _ (.refl s))) h
  case divEv | idivEv =>
    exact execEffect_of_divide (by simp [CanEnterInterrupt]) (untouched_rollBack_readLoc16 _ s)
      (tame_quotient16 _ _ (tame_readLoc16 _ (.refl s))) h
  case movsb => exact execEffect_of_stringInstr _ _ tame_movs8 h
  case movsw => exact execEffect_of_stringInstr _ _ tame_movs16 h
  case cmpsb => exact execEffect_of_stringInstr _ _ tame_cmps8 h
  case cmpsw => exact execEffect_of_stringInstr _ _ tame_cmps16 h
  case stosb => exact execEffect_of_stringInstr _ _ tame_stos8 h
  case stosw => exact execEffect_of_stringInstr _ _ tame_stos16 h
  case lodsb => exact execEffect_of_stringInstr _ _ tame_lods8 h
  case lodsw => exact execEffect_of_stringInstr _ _ tame_lods16 h
  case scasb => exact execEffect_of_stringInstr _ _ tame_scas8 h
  case scasw => exact execEffect_of_stringInstr _ _ tame_scas16 h
  case clc | stc | cmc => exact execEffect_of_next h (tame_setFlag _ _ rfl (.refl s))
  case mulEb | imulEb => exact execEffect_of_next h (tame_mulFlags _ (tame_setReg16 _ _ (tame_readLoc8 _ (.refl s))))
  case mulEv | imulEv => exact execEffect_of_next h (tame_mulFlags _ (tame_setDxAx _ (tame_readLoc16 _ (.refl s))))
  case aadIb => exact execEffect_of_next h (tame_aamFlags (tame_setReg8 _ _ (tame_setReg8 _ _ (.refl s))))
  case ldsGvMp | lesGvMp =>
    exact execEffect_of_next h (tame_setSreg _ _ (tame_setReg16 _ _ (tame_readFar _ (.refl s))))
  -- The compositions of shared operations; the rows left after them are those the hypotheses exclude.
  all_goals try exact execEffect_of_next h (by simp +contextual only [Tame.refl, tame_setReg16, tame_setReg8, tame_setIp,
    tame_farTo, tame_sahf, tame_readLoc8, tame_readLoc16, tame_readFar, tame_writeLoc8, tame_writeLoc16, tame_ioOut8,
    tame_ioOut16, tame_inByte, tame_inWord, tame_move8, tame_move16, tame_exchange8, tame_exchange16, tame_push16,
    tame_pushLoc, tame_popLoc, tame_alu8, tame_alu16, tame_aluImm8, tame_aluImm16, tame_modify8, tame_modify16,
    incFlags_bit, decFlags_bit, negFlags_bit, tame_testWith, tame_shift8, tame_shift16, tame_putAdjusted,
    tame_asciiAdjust, jumpRel8, jumpRel16, tame_jumpIf, tame_loopIf, tame_callNear, tame_callFar, tame_returnNear,
    tame_returnFar, tame_dropStack, implies_true])
  all_goals simp only [illegalRows, baselineIllegalRows, isV20Row, List.mem_append, List.mem_cons, true_or, or_true,
    not_true_eq_false, Bool.true_eq_false] at hill hbase hv20

end

end execEffect

section

variable {s t u : State} {i : Instr}

/-! ### What every instruction keeps -/

theorem SameSystem.withSoftInt (h : SameSystem s t) (hs : List SoftHandler) :
    SameSystem { s with softInt := hs } { t with softInt := hs } := by
  rw [sameSystem_iff] at *
  simp [h]

/-- The frame of any instruction: of the hidden state only the signal, the decode state and the handlers' coming replies can
change; memory stays in canonical form and bit 1 of FLAGS set (10_state.md R38, R43 to R49). -/
theorem exec_frame (h : exec i s = .next t) :
    (∃ g d hs, SameSystem { s with signal := g, dec := d, softInt := hs } t ∧
      (g = s.signal ∨ i = .hlt ∧ g = .halt) ∧ (d = s.dec ∨ i.isPrefix = true)) ∧
    (s.mem.wf = true → t.mem.wf = true) ∧ (s.flags.getLsbD 1 = true → t.flags.getLsbD 1 = true) := by
  cases exec_effect h with
  | tame h =>
    obtain ⟨hsys, hwf, hbits⟩ := h
    exact ⟨⟨s.signal, s.dec, s.softInt, hsys, .inl rfl, .inl rfl⟩, hwf, fun hr => (hbits 1 rfl).trans hr⟩
  | stores hi v u hu h =>
    subst h
    obtain ⟨hsys, hwf, -⟩ := hu
    exact ⟨⟨s.signal, s.dec, s.softInt, hsys.trans (by simp [sameSystem_iff]), .inl rfl, .inl rfl⟩, hwf,
      fun _ => storeFlags_reserved v u⟩
  | controls f b hi h =>
    subst h
    have hbit : ¬ 1 = f.bit := by rcases hi with ⟨rfl, -⟩ | ⟨rfl, -⟩ <;> decide
    refine ⟨⟨s.signal, s.dec, s.softInt, by simp [sameSystem_iff], .inl rfl, .inl rfl⟩, id, fun hr => ?_⟩
    rw [setFlag_flags, getLsbD_putFlag, if_neg hbit]
    exact hr
  | halts hi h =>
    subst h
    exact ⟨⟨.halt, s.dec, s.softInt, by simp [sameSystem_iff], .inr ⟨hi, rfl⟩, .inl rfl⟩, id, id⟩
  | decodes hi d h =>
    subst h
    exact ⟨⟨s.signal, d, s.softInt, .refl _, .inl rfl, .inr hi⟩, id, id⟩
  | enters hi n u hu h =>
    obtain ⟨hsys, ⟨-, -, hmem⟩, hflags⟩ := hu
    obtain ⟨⟨hs, ht⟩, hwf, hres⟩ := doInterrupt_frame h
    rw [hmem] at hwf
    rw [hflags] at hres
    exact ⟨⟨s.signal, s.dec, hs, (hsys.withSoftInt hs).trans ht, .inl rfl, .inl rfl⟩, hwf, hres⟩

end

/-- Settles O17, by the frame of an instruction. -/
theorem execKeepsHiddenState : Obligations.ExecKeepsHiddenState := by
  intro i s t h
  obtain ⟨⟨g, d, hs, hsys, hg, hd⟩, -⟩ := exec_frame h
  obtain ⟨htrap, hdb, hic, hcyc, hsig, hdec, hmt, hit, hper, -, hpic, hmode, hwrap⟩ := sameSystem_iff.1 hsys
  refine ⟨htrap, hdb, hic, hcyc, hmt, hit, hper, hpic, hmode, hwrap, fun hi => ?_, fun hi => ?_⟩
  · exact hsig.trans (hg.resolve_right fun hh => hi hh.1)
  · exact hdec.trans (hd.resolve_right (by simp [hi]))

/-! ### The control flags -/

/-- `Tame` keeps the flags that are no status flags. -/
theorem Tame.flag {s t : State} (h : Tame s t) {f : Flag} (hf : isStatusBit f.bit = false) : flag f t = flag f s :=
  h.2.2 f.bit hf

/-- Settles O18, by what an instruction can do: only CLI, STI, CLD, STD and interrupt entry, of the rows in question, write more
than status flags. -/
theorem controlFlagsChangeOnlyByTheirInstructions : Obligations.ControlFlagsChangeOnlyByTheirInstructions := by
  intro i s t hsoft h hpopf hiret
  cases exec_effect h with
  | tame h =>
    refine ⟨fun j hj => h.2.2 j ?_, fun _ _ => h.flag rfl, .inl ⟨h.flag rfl, fun _ _ => h.flag rfl⟩⟩
    revert j
    decide
  | stores hi => exact absurd hi (by simp [hpopf, hiret])
  | controls f b hi h =>
    subst h
    have hbit : ∀ j ∈ [1, 3, 5, 12, 13, 14, 15], j ≠ f.bit := by rcases hi with ⟨rfl, -⟩ | ⟨rfl, -⟩ <;> decide
    refine ⟨fun j hj => by rw [setFlag_flags, getLsbD_putFlag, if_neg (hbit j hj)], fun hcld hstd => ?_,
      .inl ⟨?_, fun hcli hsti => ?_⟩⟩
    · rcases hi with ⟨rfl, -⟩ | ⟨-, hi⟩
      · simp
      · exact absurd hi (by simp [hcld, hstd])
    · rcases hi with ⟨rfl, -⟩ | ⟨rfl, -⟩ <;> simp
    · rcases hi with ⟨-, hi⟩ | ⟨rfl, -⟩
      · exact absurd hi (by simp [hcli, hsti])
      · simp
  | halts hi h =>
    subst h
    exact ⟨fun _ _ => rfl, fun _ _ => rfl, .inl ⟨rfl, fun _ _ => rfl⟩⟩
  | decodes hi d h =>
    subst h
    exact ⟨fun _ _ => rfl, fun _ _ => rfl, .inl ⟨rfl, fun _ _ => rfl⟩⟩
  | enters hi n u hu h =>
    have hnone : u.softInt = [] := by
      obtain ⟨-, -, -, -, -, -, -, -, -, hu, -⟩ := sameSystem_iff.1 hu.1
      exact hu.trans hsoft
    rw [doInterrupt_of_noHandler (noHandler_of_softInt_nil n hnone)] at h
    obtain rfl := Host.Outcome.next.inj h
    have hbit := vectorThrough_bit n u
    rw [hu.2.2] at hbit
    refine ⟨fun j hj => ?_, fun _ _ => hbit 10, .inr ⟨hi, hbit 8, hbit 9, n, u.ip, fun hw => ?_⟩⟩
    · have hne : j ≠ 9 ∧ j ≠ 8 := by
        revert j
        decide
      rw [hbit, if_neg hne.1, if_neg hne.2]
    · exact hu.entered (vectorThrough_entered (by rw [hu.2.1.2.2]; exact hw) n)

/-! ### What every part of a step keeps -/

/-- What a step keeps from `s` to `t`: the canonical form of memory, bit 1 of FLAGS, the platform and `debug_break`
(10_state.md R38, R44, R49; 20_memory.md R78). -/
structure Kept (s t : State) : Prop where
  mem : s.mem.wf = true → t.mem.wf = true
  reserved : s.flags.getLsbD 1 = true → t.flags.getLsbD 1 = true
  memTable : t.memTable = s.memTable
  ioTable : t.ioTable = s.ioTable
  cpuMode : t.cpuMode = s.cpuMode
  wordWrap : t.wordWrap = s.wordWrap
  kinds : t.peripherals.map (·.kind) = s.peripherals.map (·.kind)
  debugBreak : t.debugBreak = s.debugBreak

section

variable {s t u : State}

theorem Kept.trans (h : Kept s t) (h' : Kept t u) : Kept s u where
  mem hw := h'.mem (h.mem hw)
  reserved hr := h'.reserved (h.reserved hr)
  memTable := h'.memTable.trans h.memTable
  ioTable := h'.ioTable.trans h.ioTable
  cpuMode := h'.cpuMode.trans h.cpuMode
  wordWrap := h'.wordWrap.trans h.wordWrap
  kinds := h'.kinds.trans h.kinds
  debugBreak := h'.debugBreak.trans h.debugBreak

/-- The invariant speaks of what is kept only. -/
theorem Kept.inv (h : Kept s t) (hi : Inv s) : Inv t := by
  have hlen : t.peripherals.length = s.peripherals.length := by simpa using congrArg List.length h.kinds
  constructor
  · exact h.mem hi.mem
  · exact h.reserved hi.reserved
  · rw [hlen]; exact hi.roster
  · rw [hlen, h.memTable]; exact hi.memBounds
  · rw [h.memTable]; exact hi.memExclusive
  · rw [hlen, h.ioTable]; exact hi.ioBounds
  · rw [h.ioTable]; exact hi.ioExclusive

theorem kept_of_sameSystem (h : SameSystem s t) (hw : s.mem.wf = true → t.mem.wf = true)
    (hr : s.flags.getLsbD 1 = true → t.flags.getLsbD 1 = true) : Kept s t := by
  obtain ⟨-, hdb, -, -, -, -, hmt, hit, hper, -, -, hmode, hwrap⟩ := sameSystem_iff.1 h
  exact ⟨hw, hr, hmt, hit, hmode, hwrap, by rw [hper], hdb⟩

theorem Tame.kept (h : Tame s t) : Kept s t := kept_of_sameSystem h.1 h.2.1 fun hr => (h.2.2 1 rfl).trans hr

/-! ### Items 1 to 4 of a step (60_exceptions.md R502) -/

/-- What the items before the decode keep: the platform, the signal and the instruction counter. -/
structure KeptBefore (s t : State) : Prop extends Kept s t where
  signal : t.signal = s.signal
  icount : t.icount = s.icount

theorem KeptBefore.trans (h : KeptBefore s t) (h' : KeptBefore t u) : KeptBefore s u :=
  ⟨h.toKept.trans h'.toKept, h'.signal.trans h.signal, h'.icount.trans h.icount⟩

theorem KeptBefore.refl (s : State) : KeptBefore s s := ⟨⟨id, id, rfl, rfl, rfl, rfl, rfl, rfl⟩, rfl, rfl⟩

theorem armTrap_kept (s : State) : KeptBefore s (armTrap s) := ⟨⟨id, id, rfl, rfl, rfl, rfl, rfl, rfl⟩, rfl, rfl⟩

theorem beginDecode_kept (s : State) : KeptBefore s (beginDecode s) := ⟨⟨id, id, rfl, rfl, rfl, rfl, rfl, rfl⟩, rfl, rfl⟩

theorem pollPending_kept (s : State) : KeptBefore s (pollPending s).2 := by
  rw [pollPending_snd]
  exact ⟨⟨id, id, rfl, rfl, rfl, rfl, rfl, rfl⟩, rfl, rfl⟩

theorem doInterrupt_kept {n : Byte} (h : doInterrupt n s = .next t) : KeptBefore s t := by
  obtain ⟨⟨hs, hsys⟩, hw, hr⟩ := doInterrupt_frame h
  obtain ⟨-, -, hic, -, hsig, -⟩ := sameSystem_iff.1 hsys
  have hset : Kept s { s with softInt := hs } := ⟨id, id, rfl, rfl, rfl, rfl, rfl, rfl⟩
  exact ⟨hset.trans (kept_of_sameSystem hsys hw hr), hsig, hic⟩

theorem deliverTrap_kept (h : deliverTrap s = .next t) : KeptBefore s t := by
  rcases ite_eq_next h with h | h
  · exact doInterrupt_kept h
  · cases h
    exact .refl s

theorem deliverPending_kept (h : deliverPending s = .next t) : KeptBefore s t := by
  rcases ite_eq_next h with h | h
  · split at h
    · exact (pollPending_kept s).trans (doInterrupt_kept h)
    · cases h
      exact pollPending_kept s
  · cases h
    exact .refl s

theorem andThen_eq_next {r : Res} {k : State → Res} (h : andThen r k = .next t) : ∃ u, r = .next u ∧ k u = .next t := by
  cases r with
  | next u => exact ⟨u, rfl, h⟩
  | fault f => cases h
  | refused f => cases h

/-- A step that begins delivers what is due, then decodes (60_exceptions.md R502 items 1 to 5). -/
theorem step_of_delivered (hs : s.signal ≠ .decoding) (ht : deliverTrap (beginStep s) = .next t)
    (hu : deliverPending (armTrap t) = .next u) : step s = runDecoded prefixLimit (beginDecode u) := by
  unfold step runStep
  rw [if_neg hs, ht]
  show andThen (deliverPending (armTrap t)) _ = _
  rw [hu]
  rfl

theorem delivered_of_step (hs : s.signal ≠ .decoding) {v : State} (h : step s = .next v) :
    ∃ t u, deliverTrap (beginStep s) = .next t ∧ deliverPending (armTrap t) = .next u := by
  unfold step runStep at h
  rw [if_neg hs] at h
  obtain ⟨t, ht, h⟩ := andThen_eq_next h
  obtain ⟨u, hu, -⟩ := andThen_eq_next h
  exact ⟨t, u, ht, hu⟩

/-- A call of `step` that answers a next state has reached the decode phase with nothing counted and no signal. -/
theorem step_eq_next (h : step s = .next t) :
    ∃ d, Kept s d ∧ d.signal = .ok ∧ d.icount = s.icount ∧ runDecoded prefixLimit d = .next t := by
  by_cases hs : s.signal = .decoding
  · exact ⟨resumeDecode s, ⟨id, id, rfl, rfl, rfl, rfl, rfl, rfl⟩, rfl, rfl, (step_of_decoding hs).symm.trans h⟩
  · obtain ⟨u, v, hu, hv⟩ := delivered_of_step hs h
    have hbegin : Kept s (beginStep s) := ⟨id, id, rfl, rfl, rfl, rfl, rfl, rfl⟩
    have hk : KeptBefore (beginStep s) (beginDecode v) :=
      (((deliverTrap_kept hu).trans (armTrap_kept u)).trans (deliverPending_kept hv)).trans (beginDecode_kept v)
    exact ⟨beginDecode v, hbegin.trans hk.toKept, hk.signal, hk.icount, (step_of_delivered hs hu hv).symm.trans h⟩

/-! ### Items 5 to 10 -/

theorem fetchInstr_tame {i : Instr} (h : fetchInstr s = .ok (i, t)) : Tame s t := by
  unfold fetchInstr at h
  split at h
  · cases h
    exact tame_fetchBytes _ (.refl s)
  · cases h

theorem exec_kept {i : Instr} (h : exec i s = .next t) : Kept s t := by
  obtain ⟨⟨g, d, hs, hsys, -, -⟩, hw, hr⟩ := exec_frame h
  have hset : Kept s { s with signal := g, dec := d, softInt := hs } := ⟨id, id, rfl, rfl, rfl, rfl, rfl, rfl⟩
  exact hset.trans (kept_of_sameSystem hsys hw hr)

theorem exec_icount {i : Instr} (h : exec i s = .next t) : t.icount = s.icount := (execKeepsHiddenState i s t h).2.2.1

theorem exec_signal {i : Instr} (h : exec i s = .next t) (hs : s.signal ≠ .decoding) : t.signal ≠ .decoding := by
  obtain ⟨⟨g, d, hs', hsys, hg, -⟩, -, -⟩ := exec_frame h
  obtain ⟨-, -, -, -, hsig, -⟩ := sameSystem_iff.1 hsys
  rw [hsig]
  rcases hg with rfl | ⟨-, rfl⟩
  · exact hs
  · nofun

theorem Peripheral.nextTick_kind (p : Peripheral) : p.nextTick.2.kind = p.kind := by
  unfold Peripheral.nextTick
  split <;> rfl

/-- A tick replaces a peripheral by one of its kind. -/
theorem kinds_set_nextTick {ps : List Peripheral} {k : Nat} {p : Peripheral} (h : ps[k]? = some p) :
    (ps.set k p.nextTick.2).map (·.kind) = ps.map (·.kind) := by
  obtain ⟨hk, rfl⟩ := List.getElem?_eq_some_iff.1 h
  have hself := List.set_getElem_self (as := ps.map (·.kind)) (i := k) (by simpa using hk)
  rw [List.getElem_map] at hself
  rwa [List.map_set, Peripheral.nextTick_kind]

/-- The tick phase: bus accesses, and the peripherals' coming ticks (60_exceptions.md R502 item 8; 20_memory.md R99). -/
theorem tickFrom_frame {n k : Nat} (h : tickFrom n k s = .next t) :
    Kept s t ∧ t.signal = s.signal ∧ t.icount = s.icount ∧ t.cycles = s.cycles := by
  induction n generalizing k s with
  | zero =>
    cases h
    exact ⟨(KeptBefore.refl _).toKept, rfl, rfl, rfl⟩
  | succ n ih =>
    unfold tickFrom at h
    split at h
    · cases h
      exact ⟨(KeptBefore.refl _).toKept, rfl, rfl, rfl⟩
    · next p hp =>
      dsimp only at h
      split at h
      · cases h
      · obtain ⟨hk, hsig, hic, hcyc⟩ := ih h
        obtain ⟨hsys, -, -, -, hflags⟩ :=
          runBusOps_frame p.nextTick.1.ops { s with peripherals := s.peripherals.set k p.nextTick.2 }
        have hset : Kept s { s with peripherals := s.peripherals.set k p.nextTick.2 } :=
          ⟨id, id, rfl, rfl, rfl, rfl, kinds_set_nextTick hp, rfl⟩
        have hrun := kept_of_sameSystem hsys (runBusOps_wf _) fun hr => by rw [hflags]; exact hr
        obtain ⟨-, -, hic', hcyc', hsig', -⟩ := sameSystem_iff.1 hsys
        exact ⟨(hset.trans hrun).trans hk, hsig.trans hsig', hic.trans hic', hcyc.trans hcyc'⟩

theorem finishStep_frame (h : finishStep s = .next t) :
    Kept s t ∧ t.signal = s.signal ∧ t.icount = s.icount + 1#64 ∧ t.cycles = 1 := by
  obtain ⟨u, hu, h⟩ := andThen_eq_next h
  obtain ⟨hk, hsig, hic, hcyc⟩ := tickFrom_frame hu
  cases h
  have hstart : Kept s { s with cycles := Config.cyclesPerStep } := ⟨id, id, rfl, rfl, rfl, rfl, rfl, rfl⟩
  have hend : Kept u { u with icount := u.icount + 1#64 } := ⟨id, id, rfl, rfl, rfl, rfl, rfl, rfl⟩
  exact ⟨(hstart.trans hk).trans hend, hsig, by rw [hic], hcyc⟩

/-- What a call of `step` counts: one instruction and one cycle, or nothing if it ends inside the prefix loop
(notes/assumptions/9.md). -/
def Counted (s t : State) : Prop :=
  if t.signal = .decoding then t.icount = s.icount else t.icount = s.icount + 1#64 ∧ t.cycles = 1

theorem counted_congr (h : u.icount = s.icount) : Counted s t ↔ Counted u t := by
  unfold Counted
  rw [h]

/-- The decode phase, by induction on the prefixes that are left (30_encoding.md R111). -/
theorem runDecoded_frame {fuel : Nat} (h : runDecoded fuel s = .next t) (hs : s.signal ≠ .decoding) :
    Kept s t ∧ Counted s t := by
  induction fuel generalizing s with
  | zero =>
    cases h
    exact ⟨⟨id, id, rfl, rfl, rfl, rfl, rfl, rfl⟩, rfl⟩
  | succ fuel ih =>
    unfold runDecoded at h
    split at h
    · cases h
    · next i s1 hf =>
      have hfetch := fetchInstr_tame hf
      obtain ⟨-, -, hic1, -, hsig1, -⟩ := sameSystem_iff.1 hfetch.1
      obtain ⟨u, hu, h⟩ := andThen_eq_next h
      have hk : Kept s u := hfetch.kept.trans (exec_kept hu)
      have hic : u.icount = s.icount := (exec_icount hu).trans hic1
      have hsig : u.signal ≠ .decoding := exec_signal hu (by rw [hsig1]; exact hs)
      rw [counted_congr hic]
      split at h
      · obtain ⟨hk', hc⟩ := ih h hsig
        exact ⟨hk.trans hk', hc⟩
      · obtain ⟨hk', hsig', hic', hcyc⟩ := finishStep_frame h
        refine ⟨hk.trans hk', ?_⟩
        unfold Counted
        rw [hsig', if_neg hsig]
        exact ⟨hic', hcyc⟩

/-- The frame of a step. -/
theorem step_frame (h : step s = .next t) : Kept s t ∧ Counted s t := by
  obtain ⟨d, hk, hsig, hic, h⟩ := step_eq_next h
  obtain ⟨hk', hc⟩ := runDecoded_frame h (by rw [hsig]; decide)
  exact ⟨hk.trans hk', (counted_congr hic).2 hc⟩

end

/-- Settles O10, by the frame of a step. -/
theorem stepKeepsInv : Obligations.StepKeepsInv := fun _ _ hi h => (step_frame h).1.inv hi

/-- Settles O11, by the frame of a step. -/
theorem stepKeepsPlatformAndCounts : Obligations.StepKeepsPlatformAndCounts := by
  refine ⟨fun s t h => ?_, fun s t h => ?_⟩
  · obtain ⟨hk, -⟩ := step_frame h
    exact ⟨hk.memTable, hk.ioTable, hk.cpuMode, hk.wordWrap, hk.kinds⟩
  · obtain ⟨hk, hc⟩ := step_frame h
    exact ⟨hk.debugBreak, hc⟩

/-! ### The decode state an earlier step left -/

section rehide

variable (b : Bool) (c : Nat) (g : Signal) (d : DecodeState) (p : Option (List (Option Byte))) (s : State)

theorem rehide_ioTable : (rehide b c g d p s).ioTable = s.ioTable := rfl

theorem ioIn8_rehide (q : Word) : ioIn8 q (rehide b c g d p s) = ((ioIn8 q s).1, rehide b c g d p (ioIn8 q s).2) := by
  unfold ioIn8
  rw [rehide_ioTable]
  split <;> rfl

theorem ioOut8_rehide (q : Word) (v : Byte) : ioOut8 q v (rehide b c g d p s) = rehide b c g d p (ioOut8 q v s) := by
  unfold ioOut8
  rw [rehide_ioTable]
  split <;> rfl

theorem runBusOp_rehide (op : BusOp) : runBusOp op (rehide b c g d p s) = rehide b c g d p (runBusOp op s) := by
  cases op with
  | read a => exact congrArg Prod.snd (busRead8_rehide b c g d p s a)
  | write a v => exact busWrite8_rehide b c g d p s a v
  | portIn q => exact congrArg Prod.snd (ioIn8_rehide b c g d p s q)
  | portOut q v => exact ioOut8_rehide b c g d p s q v
  | raiseIrq _ => rfl

theorem runHandlerOp_rehide (op : HandlerOp) :
    runHandlerOp op (rehide b c g d p s) = rehide b c g d p (runHandlerOp op s) := by
  cases op with
  | bus op => exact runBusOp_rehide b c g d p s op
  | setReg _ _ | setSeg _ _ | setIp _ | storeFlags _ => rfl

theorem runHandlerOps_rehide (ops : List HandlerOp) :
    runHandlerOps ops (rehide b c g d p s) = rehide b c g d p (runHandlerOps ops s) := by
  induction ops generalizing s with
  | nil => rfl
  | cons o os ih =>
    rw [runHandlerOps, runHandlerOp_rehide]
    exact ih _

/-- An interrupt entry, handlers included, neither reads nor writes what a step sets at its start. -/
theorem doInterrupt_rehide {n : Byte} {t : State} (h : doInterrupt n s = .next t) :
    doInterrupt n (rehide b c g d p s) = .next (rehide b c g d p t) := by
  have hsoft : (rehide b c g d p s).softInt = s.softInt := rfl
  revert h
  unfold doInterrupt
  rw [hsoft]
  cases nextReply n s.softInt with
  | none =>
    intro h
    rw [← Host.Outcome.next.inj h, ← vectorThrough_rehide]
  | some reply =>
    obtain ⟨r, hs⟩ := reply
    have hrun : runHandlerOps r.ops { rehide b c g d p s with softInt := hs } =
        rehide b c g d p (runHandlerOps r.ops { s with softInt := hs }) :=
      runHandlerOps_rehide b c g d p { s with softInt := hs } r.ops
    dsimp only
    rw [hrun]
    cases r.result <;> intro h
    case notHandled => rw [← Host.Outcome.next.inj h, ← vectorThrough_rehide]
    case ok => rw [← Host.Outcome.next.inj h, ← clearTfIf_rehide]
    case error => nomatch h

end rehide

section

variable {s t : State} (d : DecodeState)

/-- What an interrupt entry leaves of the fields a step sets at its start. -/
theorem doInterrupt_hidden {n : Byte} (h : doInterrupt n s = .next t) :
    t.trap = s.trap ∧ t.cycles = s.cycles ∧ t.signal = s.signal ∧ t.pic = s.pic := by
  obtain ⟨⟨hs, hsys⟩, -⟩ := doInterrupt_frame h
  obtain ⟨htrap, -, -, hcyc, hsig, -, -, -, -, -, hpic, -⟩ := sameSystem_iff.1 hsys
  exact ⟨htrap, hcyc, hsig, hpic⟩

theorem doInterrupt_dec {n : Byte} (h : doInterrupt n s = .next t) :
    doInterrupt n { s with dec := d } = .next { t with dec := d } := by
  obtain ⟨htrap, hcyc, hsig, hpic⟩ := doInterrupt_hidden h
  have ht : { t with dec := d } = rehide s.trap s.cycles s.signal d s.pic t := by
    rw [← htrap, ← hcyc, ← hsig, ← hpic]
    rfl
  rw [ht]
  exact doInterrupt_rehide s.trap s.cycles s.signal d s.pic s h

theorem deliverTrap_dec (h : deliverTrap s = .next t) : deliverTrap { s with dec := d } = .next { t with dec := d } := by
  unfold deliverTrap at h ⊢
  split at h
  · next ht => exact (if_pos ht).trans (doInterrupt_dec d h)
  · next ht =>
    rw [← Host.Outcome.next.inj h]
    exact if_neg ht

theorem pollPending_dec (s : State) :
    pollPending { s with dec := d } = ((pollPending s).1, { (pollPending s).2 with dec := d }) := by
  unfold pollPending
  dsimp only
  split <;> rfl

theorem deliverPending_dec (h : deliverPending s = .next t) :
    deliverPending { s with dec := d } = .next { t with dec := d } := by
  unfold deliverPending at h ⊢
  rw [pollPending_dec]
  split at h
  · next hask =>
    refine (if_pos hask).trans ?_
    dsimp only
    split at h
    · exact doInterrupt_dec d h
    · rw [← Host.Outcome.next.inj h]
  · next hask =>
    rw [← Host.Outcome.next.inj h]
    exact if_neg hask

end

/-- Settles O12: the items before the decode carry the decode state along unread, and the decode begins with a new one. -/
theorem stepIgnoresOldDecodeState : Obligations.StepIgnoresOldDecodeState := by
  intro s t d c g hs hg h
  obtain ⟨u, v, hu, hv⟩ := delivered_of_step hs h
  rw [step_of_delivered hs hu hv] at h
  have hbegin : beginStep { s with dec := d, cycles := c, signal := g } = { beginStep s with dec := d } := rfl
  have harm : armTrap { u with dec := d } = { armTrap u with dec := d } := rfl
  have hdecode : beginDecode { v with dec := d } = beginDecode v := rfl
  have hu' := deliverTrap_dec d hu
  have hv' := deliverPending_dec d hv
  rw [← hbegin] at hu'
  rw [← harm] at hv'
  rw [step_of_delivered hg hu' hv', hdecode, h]

/-- With IF = 0 the controller is not asked and the decode begins (60_exceptions.md R507). -/
theorem deliverPending_of_closed {s : State} (hif : flag .interrupt s = false) :
    deliverPending (armTrap s) = .next (armTrap s) := by
  unfold deliverPending
  rw [armTrap_flag, hif, Bool.and_false]
  rfl

theorem deliverTrap_of_set {s : State} (ht : s.trap = true) (hn : NoHandler 1#8 s) :
    deliverTrap s = .next (vectorThrough 1#8 s) := by
  unfold deliverTrap
  rw [if_pos ht, doInterrupt_of_noHandler hn]

theorem vectorThrough_interrupt_flag (n : Byte) (s : State) : flag .interrupt (vectorThrough n s) = false :=
  vectorThrough_bit n s 9

/-- A trap taken from `s` leads, but for the fields a step sets at its start, to a state `u` in which the controller is not due:
the step goes on as a step from `u` with the latch clear. -/
theorem step_of_trapEntry {s u : State} (hs : s.signal ≠ .decoding) (hu : u.signal ≠ .decoding)
    (hif : flag .interrupt u = false) (ht : deliverTrap (beginStep s) = .next (rehide s.trap 0 .ok s.dec u.pic u)) :
    step s = step { u with trap := false } := by
  have hclear : deliverTrap (beginStep { u with trap := false }) = .next (beginStep { u with trap := false }) :=
    deliverTrap_of_clear rfl
  have hclosed : deliverPending (armTrap (rehide s.trap 0 .ok s.dec u.pic u)) =
      .next (armTrap (rehide s.trap 0 .ok s.dec u.pic u)) := deliverPending_of_closed hif
  have hclosed' : deliverPending (armTrap (beginStep { u with trap := false })) =
      .next (armTrap (beginStep { u with trap := false })) := deliverPending_of_closed hif
  have hdecode : beginDecode (armTrap (rehide s.trap 0 .ok s.dec u.pic u)) =
      beginDecode (armTrap (beginStep { u with trap := false })) := rfl
  rw [step_of_delivered hs ht hclosed, hdecode]
  exact (step_of_delivered (s := { u with trap := false }) hu hclear hclosed').symm

/-- Settles O13. The entry clears TF and IF, so in the state it leaves neither a trap nor the controller is due. -/
theorem latchedTrapTakesVectorOne : Obligations.LatchedTrapTakesVectorOne := by
  intro s hs hw htrap hn
  refine ⟨vectorThrough 1#8 s, vectorThrough_entered hw 1#8, step_of_trapEntry hs ?_ ?_ ?_⟩
  · rwa [vectorThrough_signal]
  · exact vectorThrough_interrupt_flag 1#8 s
  · rw [deliverTrap_of_set (s := beginStep s) htrap hn, beginStep_eq, vectorThrough_rehide, vectorThrough_pic]

/-! ### The accessors -/

/-- A 16-bit register is its two 8-bit registers (10_state.md R32). -/
theorem append_hiByte_loByte (w : Word) : hiByte w ++ loByte w = w := wordOfBytes_lo_hi w

theorem storeWord_idem (v : Word) : storeWord (storeWord v) = storeWord v := by
  unfold storeWord
  rw [BitVec.or_assoc, BitVec.or_self]

theorem sameRegsBut_setReg8 (r : Reg8) (v : Byte) (s : State) : SameRegsBut [wholeOf r] s (setReg8 r v s) := by
  intro q hq
  rw [reg16_setReg8, if_neg (by simpa using hq)]

theorem Reg8.code_ofCode (c : BitVec 3) : (Reg8.ofCode c).code = c := by
  revert c
  decide

theorem Reg16.code_ofCode (c : BitVec 3) : (Reg16.ofCode c).code = c := by
  revert c
  decide

/-- Settles O22, from the laws of reading after writing. -/
theorem accessorsTouchOnlyTheirPart : Obligations.AccessorsTouchOnlyTheirPart := by
  refine ⟨⟨?flagBits, ?flags, ?storeBits, ?storeTwice⟩, ⟨?halves, ?whole, ?append, ?codes⟩,
    ⟨?code16, ?code8, ?bits⟩, ?words⟩
  case flagBits => exact fun f b w j => getLsbD_putFlag f b w j
  case flags => exact fun f g b w => flagOf_putFlag g f b w
  case storeBits => exact getLsbD_storeWord
  case storeTwice => exact storeWord_idem
  case halves => exact fun s r q v => reg8_setReg8 q r v s
  case whole => exact fun s r v => sameRegsBut_setReg8 r v s
  case append =>
    have h (w : Word) := (append_hiByte_loByte w).symm
    exact fun s => ⟨h s.gpr.ax, h s.gpr.cx, h s.gpr.dx, h s.gpr.bx⟩
  case codes => exact fun c => ⟨Reg8.code_ofCode c, Reg16.code_ofCode c⟩
  case code16 => rfl
  case code8 => rfl
  case bits => rfl
  case words => exact fun v lo hi => ⟨(append_hiByte_loByte v).symm, rfl⟩

/-! ### Reset -/

/-- Settles O2. Every condition of the invariant is a closed fact about the literal reset state. -/
theorem resetMeetsInv : Obligations.ResetMeetsInv := by
  constructor <;> decide

/-- The peripherals' own resets are bus accesses (70_reset_and_hazards.md R550 item 2). -/
theorem resetPeripherals_frame (ps : List Peripheral) (s : State) :
    SameSystem s (resetPeripherals ps s) ∧ (resetPeripherals ps s).gpr = s.gpr ∧ (resetPeripherals ps s).seg = s.seg ∧
      (resetPeripherals ps s).ip = s.ip ∧ (resetPeripherals ps s).flags = s.flags := by
  induction ps generalizing s with
  | nil => exact ⟨.refl s, rfl, rfl, rfl, rfl⟩
  | cons p ps ih =>
    obtain ⟨hsys, hgpr, hseg, hip, hflags⟩ := runBusOps_frame p.resetOps s
    obtain ⟨hsys', hgpr', hseg', hip', hflags'⟩ := ih (runBusOps p.resetOps s)
    exact ⟨hsys.trans hsys', hgpr'.trans hgpr, hseg'.trans hseg, hip'.trans hip, hflags'.trans hflags⟩

/-- A peripheral whose reset does nothing leaves memory alone. -/
theorem resetPeripherals_of_quiet {ps : List Peripheral} (h : ∀ p ∈ ps, p.resetOps = []) (s : State) :
    resetPeripherals ps s = s := by
  induction ps with
  | nil => rfl
  | cons p ps ih =>
    rw [resetPeripherals, h p (List.mem_cons_self ..)]
    exact ih fun q hq => h q (List.mem_cons_of_mem _ hq)

/-- What the host's reset has done before the peripherals' own resets (70_reset_and_hazards.md R550 item 1). -/
def clearedForReset (s : State) : State := storeFlags 0#16 { s with
  gpr := { ax := 0#16, cx := 0#16, dx := 0#16, bx := 0#16, sp := 0#16, bp := 0#16, si := 0#16, di := 0#16 }
  seg := { es := 0#16, cs := 0#16, ss := 0#16, ds := 0#16 }
  ip := 0#16 }

theorem hostReset_eq (s : State) : hostReset s =
    { setSreg .cs 0xFFFF#16 (resetPeripherals s.peripherals (clearedForReset s)) with
      trap := false, debugBreak := false, signal := .ok } := rfl

theorem reg16_clearedForReset (r : Reg16) (s : State) : reg16 r (clearedForReset s) = 0#16 := by cases r <;> rfl

theorem sreg_clearedForReset (r : Sreg) (s : State) : sreg r (clearedForReset s) = 0#16 := by cases r <;> rfl

/-- Settles O1: the peripherals' own resets leave alone what was set before them. -/
theorem hostResetState : Obligations.HostResetState := by
  intro s
  have hquiet : (∀ p ∈ s.peripherals, p.resetOps = []) →
      (resetPeripherals s.peripherals (clearedForReset s)).mem = s.mem := fun h => by
    rw [resetPeripherals_of_quiet h]
    rfl
  have hframe := resetPeripherals_frame s.peripherals (clearedForReset s)
  rw [hostReset_eq]
  generalize resetPeripherals s.peripherals (clearedForReset s) = u at hquiet hframe ⊢
  obtain ⟨hsys, hgpr, hseg, hip, hflags⟩ := hframe
  obtain ⟨-, -, hic, -, -, -, hmt, hit, hper, -, -, hmode, -⟩ := sameSystem_iff.1 hsys
  refine ⟨fun r => ?_, fun r => ?_, hip, hflags, rfl, rfl, rfl, hic, hmt, hit, hmode, hper, hquiet⟩
  · exact (reg16_congr hgpr r).trans (reg16_clearedForReset r s)
  · refine (sreg_setSreg r .cs 0xFFFF#16 u).trans ?_
    rw [sreg_congr hseg, sreg_clearedForReset]

end Sys2Proof.Machine

namespace Sys2Proof.Machine

section memoryBus

variable {s : State} {a : Addr}

/-! ### A byte access by the kind of the device (20_memory.md R80 to R82) -/

theorem busRead8_of_unmapped (h : kindAt s a = none) : busRead8 a s = (0xFF#8, s) := by
  unfold busRead8
  rw [h]
  rfl

theorem busRead8_of_ram (h : kindAt s a = some .ram) : busRead8 a s = (s.mem.read a.toNat, s) := by
  unfold busRead8
  rw [h]

theorem busRead8_of_rom (h : kindAt s a = some .rom) : busRead8 a s = (s.mem.read a.toNat, s) := by
  unfold busRead8
  rw [h]

theorem busRead8_events_of_opaque (h : kindAt s a = some .opaqueDev) :
    (busRead8 a s).2.events = .memRead (slotAt s.memTable a.toNat) a (busRead8 a s).1 :: s.events := by
  unfold busRead8
  rw [h]
  rfl

theorem busWrite8_of_unmapped (v : Byte) (h : kindAt s a = none) : busWrite8 a v s = s := by
  unfold busWrite8
  rw [h]

theorem busWrite8_of_ram (v : Byte) (h : kindAt s a = some .ram) :
    busWrite8 a v s = { s with mem := s.mem.write a.toNat v } := by
  unfold busWrite8
  rw [h]

theorem busWrite8_of_rom (v : Byte) (h : kindAt s a = some .rom) : busWrite8 a v s = s := by
  unfold busWrite8
  rw [h]

theorem busWrite8_of_opaque (v : Byte) (h : kindAt s a = some .opaqueDev) :
    busWrite8 a v s = { s with events := .memWrite (slotAt s.memTable a.toNat) a v :: s.events } := by
  unfold busWrite8
  rw [h]

theorem busRead8_busWrite8_same (hw : s.mem.wf = true) (h : kindAt s a = some .ram) (v : Byte) :
    (busRead8 a (busWrite8 a v s)).1 = v := by
  rw [busRead8_of_ram ((busWrite8_kindAt a v s a).trans h), busWrite8_of_ram v h]
  exact Memory.read_write_same hw a.toNat v

/-- A write draws nothing, so even an `Opaque` device at another address answers as before. -/
theorem busRead8_busWrite8_other (hw : s.mem.wf = true) {b : Addr} (h : b ≠ a) (v : Byte) :
    (busRead8 b (busWrite8 a v s)).1 = (busRead8 b s).1 := by
  have hread : (busWrite8 a v s).mem.read b.toNat = s.mem.read b.toNat :=
    (busWrite8_stored hw a v).other (by simpa using h.symm)
  unfold busRead8
  rw [busWrite8_kindAt, busWrite8_memTable, hread]
  split <;> simp [drawAnswer]

/-! ### A word access (20_memory.md R86 to R89) -/

/-- The two bytes of a word are two cells under either reading of `P_WORD_WRAP`. -/
theorem hiAddr_ne_lin (w : WordWrap) (seg off : Word) : hiAddr w seg off ≠ lin seg off := by
  cases w <;> simp only [hiAddr, lin] <;> bv_omega

theorem hiAddr_linear_eq_segment_iff (seg off : Word) :
    hiAddr .linear seg off = hiAddr .segment seg off ↔ off ≠ 0xFFFF#16 := by
  simp only [hiAddr, lin]
  constructor
  · rintro h rfl
    bv_omega
  · intro h
    bv_omega

theorem memRead16_of_ram {seg off : Word} (hlo : IsRam s (lin seg off)) (hhi : IsRam s (hiAddr s.wordWrap seg off)) :
    memRead16 seg off s =
      (wordOfBytes (s.mem.read (lin seg off).toNat) (s.mem.read (hiAddr s.wordWrap seg off).toNat), s) := by
  simp only [memRead16, busRead8_of_ram hlo, busRead8_of_ram hhi]

theorem memRead16_of_rom {seg off : Word} (hlo : kindAt s (lin seg off) = some .rom)
    (hhi : kindAt s (hiAddr s.wordWrap seg off) = some .rom) :
    memRead16 seg off s =
      (wordOfBytes (s.mem.read (lin seg off).toNat) (s.mem.read (hiAddr s.wordWrap seg off).toNat), s) := by
  simp only [memRead16, busRead8_of_rom hlo, busRead8_of_rom hhi]

/-- A word stored in RAM: its low byte at `seg:off`, its high byte at the next address. -/
theorem memWrite16_bytes (hw : s.mem.wf = true) {seg off : Word} (hlo : IsRam s (lin seg off))
    (hhi : IsRam s (hiAddr s.wordWrap seg off)) (v : Word) :
    (memWrite16 seg off v s).mem.read (lin seg off).toNat = loByte v ∧
      (memWrite16 seg off v s).mem.read (hiAddr s.wordWrap seg off).toNat = hiByte v := by
  have hst := memWrite16_stored hw seg off v
  have hne : (lin seg off == hiAddr s.wordWrap seg off) = false := beq_false_of_ne (hiAddr_ne_lin _ seg off).symm
  constructor
  · rw [hst, if_pos hlo]
    simp [wordCells, List.lookup, hne]
  · rw [hst, if_pos hhi]
    simp [wordCells]

theorem memRead16_memWrite16 (hw : s.mem.wf = true) {seg off : Word} (hlo : IsRam s (lin seg off))
    (hhi : IsRam s (hiAddr s.wordWrap seg off)) (v : Word) : (memRead16 seg off (memWrite16 seg off v s)).1 = v := by
  obtain ⟨hl, hh⟩ := memWrite16_bytes hw hlo hhi v
  rw [memRead16_of_ram ((memWrite16_kindAt ..).trans hlo) (by rwa [memWrite16_wordWrap, IsRam, memWrite16_kindAt]),
    memWrite16_wordWrap, hl, hh]
  exact wordOfBytes_lo_hi v

end memoryBus

/-- Settles O25: a byte access by the kind of its device, and a word access as two of them. -/
theorem memoryAccessByDeviceKind : Obligations.MemoryAccessByDeviceKind := by
  refine ⟨fun s a b v hw => ⟨?unmapped, ?ram, ?rom, ?opaqueDev, ?other⟩, ?word, ?accesses, fun _ _ => rfl,
    hiAddr_linear_eq_segment_iff⟩
  case unmapped => exact fun h => ⟨busRead8_of_unmapped h, busWrite8_of_unmapped v h⟩
  case ram =>
    intro h
    refine ⟨busRead8_busWrite8_same hw h v, by rw [busRead8_of_ram h], ?_⟩
    rw [busWrite8_of_ram v h]
    exact ⟨rfl, rfl, rfl⟩
  case rom => exact fun h => ⟨busWrite8_of_rom v h, by rw [busRead8_of_rom h]⟩
  case opaqueDev => exact fun h => ⟨busWrite8_of_opaque v h, busRead8_mem a s, busRead8_events_of_opaque h⟩
  case other => exact fun hne _ => busRead8_busWrite8_other hw hne v
  case word =>
    intro s seg off v hw hlo hhi
    obtain ⟨hl, hh⟩ := memWrite16_bytes hw hlo hhi v
    refine ⟨memRead16_memWrite16 hw hlo hhi v, hl, hh, fun a ha ha' => ?_⟩
    exact (memWrite16_stored hw seg off v).other (by simp [wordCells, ha.symm, ha'.symm])
  case accesses =>
    rintro s seg off v _ _ rfl rfl
    refine ⟨rfl, rfl, fun hlo hhi => ?_, fun hlo hhi => ?_, fun hlo hhi => ?_⟩
    · simp only [memRead16, memWrite16, busRead8_of_unmapped, busWrite8_of_unmapped, hlo, hhi]
      exact ⟨rfl, trivial⟩
    · refine ⟨memRead16_of_rom hlo hhi, ?_⟩
      simp only [memWrite16, busWrite8_of_rom, hlo, hhi]
    · refine ⟨?_, by simp, ?_⟩
      · unfold memWrite16
        rw [busWrite8_of_opaque (s := busWrite8 _ _ s) _ ((busWrite8_kindAt ..).trans hhi), busWrite8_of_opaque _ hlo]
      · simp only [memRead16, loByte_wordOfBytes, hiByte_wordOfBytes]
        rw [busRead8_events_of_opaque ((busRead8_kindAt ..).trans hhi), busRead8_events_of_opaque hlo, busRead8_memTable]

/-- Settles O27: the pop reads the word that the push has just stored in RAM. -/
theorem popUndoesPush : Obligations.PopUndoesPush := by
  intro s v hw hram
  have hhi : IsRam s (hiAddr s.wordWrap s.seg.ss (s.gpr.sp - 2#16)) := hram (_, hiByte v) (List.mem_cons_self ..)
  have hlo : IsRam s (lin s.seg.ss (s.gpr.sp - 2#16)) := hram (_, loByte v) (List.mem_cons_of_mem _ (List.mem_cons_self ..))
  obtain ⟨-, -, -, -, hmem, hgpr, hval⟩ := pop16_frame (push16 v s)
  refine ⟨?_, ?_, (push16_stored hw v).congr rfl hmem fun _ => rfl⟩
  · rw [hval, push16_seg, push16_gpr]
    exact memRead16_memWrite16 (s := decSp s) hw hlo hhi v
  · rw [hgpr, push16_gpr, Gpr.set_sp_sp, BitVec.sub_add_cancel]
    rfl

/-! ### Addresses and operands (20_memory.md R70 to R72; 30_encoding.md R122 to R125) -/

theorem toNat_lin (seg off : Word) : (lin seg off).toNat = (seg.toNat * 16 + off.toNat) % 2 ^ 20 := by
  unfold lin
  bv_omega

theorem toNat_makeAddress (seg off : Word) : (makeAddress seg off).toNat = seg.toNat * 65536 + off.toNat := by
  have := off.isLt
  rw [makeAddress, BitVec.toNat_append, ← Nat.shiftLeft_add_eq_or_of_lt this, Nat.shiftLeft_eq]

/-- A sign-extended displacement is added as the signed number it stands for (00_scope.md R7). -/
theorem toNat_add_sext16 (w : Word) (d : Byte) : ((w + sext16 d).toNat : Int) = (w.toNat + d.toInt) % 2 ^ 16 := by
  have h : d.toInt % 2 ^ 16 = ((sext16 d).toNat : Int) % 2 ^ 16 := by
    rw [← BitVec.toInt_signExtend_of_le (v := 16) (by decide), BitVec.toInt_eq_toNat_bmod]
    exact Int.bmod_emod
  rw [BitVec.toNat_add]
  omega

theorem baseSegment_eq (b : EaBase) : baseSegment b = if b ∈ [.bpSi, .bpDi, .bp] then .ss else .ds := by
  cases b <;> rfl

theorem segFor_of_override {s : State} {r : Sreg} (h : s.dec.segOverride = some r) (d : Sreg) :
    segFor d s = sreg r s := by
  unfold segFor
  rw [h]

theorem segFor_of_noOverride {s : State} (h : s.dec.segOverride = none) (d : Sreg) : segFor d s = sreg d s := by
  unfold segFor
  rw [h]

/-- Settles O24, by the addresses, the segments and the operands as the resolver gives them. -/
theorem addressesWrapAndTakeTheirSegment : Obligations.AddressesWrapAndTakeTheirSegment := by
  refine ⟨fun seg off => ⟨toNat_lin seg off, toNat_makeAddress seg off⟩, fun p n => ⟨rfl, BitVec.toNat_add p.2 n⟩,
    fun s b d w => ⟨rfl, toNat_add_sext16 _ d, BitVec.toNat_add _ w, rfl⟩, ?bases, ?segments, ?defaults, ?operands⟩
  case bases => exact fun s => ⟨rfl, rfl, rfl, rfl, rfl, rfl, rfl, rfl⟩
  case segments =>
    exact fun s m d r => ⟨fun h => ⟨segFor_of_override h _, segFor_of_override h d⟩,
      fun h => ⟨segFor_of_noOverride h _, segFor_of_noOverride h d⟩⟩
  case defaults => exact fun b _ _ _ => ⟨rfl, baseSegment_eq b, baseSegment_eq b, baseSegment_eq b⟩
  case operands => exact fun s m r q => ⟨rfl, rfl, rfl, rfl, rfl, rfl, rfl, rfl⟩

section ports

variable {s : State} {p : Word}

/-! ### Ports (20_memory.md R83, R90, R91) -/

theorem ioIn8_of_unmapped (h : slotAt s.ioTable p.toNat = 0) : ioIn8 p s = (0xFF#8, s) := by
  unfold ioIn8
  rw [h]
  rfl

theorem ioOut8_of_unmapped (v : Byte) (h : slotAt s.ioTable p.toNat = 0) : ioOut8 p v s = s := by
  unfold ioOut8
  rw [h]

theorem ioIn8_events_of_mapped {k : Nat} (h : slotAt s.ioTable p.toNat = k) (hk : k ≠ 0) :
    (ioIn8 p s).2.events = .portRead k p (ioIn8 p s).1 :: s.events := by
  obtain ⟨k, rfl⟩ := Nat.exists_eq_succ_of_ne_zero hk
  unfold ioIn8
  rw [h]
  rfl

theorem ioOut8_of_mapped (v : Byte) {k : Nat} (h : slotAt s.ioTable p.toNat = k) (hk : k ≠ 0) :
    ioOut8 p v s = { s with events := .portWrite k p v :: s.events } := by
  obtain ⟨k, rfl⟩ := Nat.exists_eq_succ_of_ne_zero hk
  unfold ioOut8
  rw [h]

theorem loByte_ioIn16 (p : Word) (s : State) : loByte (ioIn16 p s).1 = (ioIn8 p s).1 := loByte_wordOfBytes _ _

theorem hiByte_ioIn16 (p : Word) (s : State) : hiByte (ioIn16 p s).1 = (ioIn8 (p + 1#16) (ioIn8 p s).2).1 :=
  hiByte_wordOfBytes _ _

theorem ioIn16_snd (p : Word) (s : State) : (ioIn16 p s).2 = (ioIn8 (p + 1#16) (ioIn8 p s).2).2 := rfl

end ports

/-- Settles O26: a word access is a byte access of the port and then of the port after it, each by whether its port is
mapped. -/
theorem portAccessLowPortFirst : Obligations.PortAccessLowPortFirst := by
  intro s p v b
  refine ⟨fun h => ⟨ioIn8_of_unmapped h, ioOut8_of_unmapped b h⟩, fun k h hk => ⟨ioOut8_of_mapped b h hk,
    ioIn8_events_of_mapped h hk, ioIn8_mem p s⟩, ⟨rfl, rfl⟩, fun k l hlo hhi => ?_⟩
  have hread : slotAt (ioIn8 p s).2.ioTable (p + 1#16).toNat = l := by rw [ioIn8_ioTable, hhi]
  have hwrite : slotAt (ioOut8 p (loByte v) s).ioTable (p + 1#16).toNat = l := by rw [ioOut8_ioTable, hhi]
  rw [ioOut16, loByte_ioIn16, hiByte_ioIn16, ioIn16_snd]
  refine ⟨fun hk hl => ?_, fun hk hl => ?_, fun hk hl => ?_, fun hk hl => ?_⟩
  · subst hk hl
    rw [ioOut8_of_unmapped _ hwrite, ioOut8_of_unmapped _ hlo, ioIn16, ioIn8_of_unmapped hread, ioIn8_of_unmapped hlo]
    dsimp only
    exact ⟨rfl, rfl⟩
  · subst hk
    rw [ioOut8_of_mapped _ hwrite hl, ioOut8_of_unmapped _ hlo, ioIn8_events_of_mapped hread hl, ioIn8_of_unmapped hlo]
    exact ⟨rfl, rfl, rfl⟩
  · subst hl
    rw [ioOut8_of_unmapped _ hwrite, ioOut8_of_mapped _ hlo hk, ioIn8_of_unmapped hread, ioIn8_events_of_mapped hlo hk]
    exact ⟨rfl, rfl, rfl⟩
  · rw [ioOut8_of_mapped _ hwrite hl, ioOut8_of_mapped _ hlo hk, ioIn8_events_of_mapped hread hl,
      ioIn8_events_of_mapped hlo hk]
    exact ⟨rfl, rfl⟩

/-! ### The accesses an `Opaque` device sees (20_memory.md R82) -/

theorem exec_aluRmReg8 (op : AluOp) (e : RM Reg8) (g : Reg8) (s : State) :
    exec (Rows.aluRmReg8 op e g) s = .next (alu8 op (loc8 e s) (.reg g) s) := by cases op <;> rfl

theorem exec_shiftByClR8 (op : ShiftOp) (e : RM Reg8) (s : State) :
    exec (Rows.shiftByClR8 op e) s = .next (shift8 op (loc8 e s) (reg8 .cl s) s) := by cases op <;> rfl

section opaqueOperand

variable {s : State} {seg off : Word} (h : kindAt s (lin seg off) = some .opaqueDev)

include h

theorem readLoc8_events_of_opaque :
    (readLoc8 (.mem seg off) s).2.events =
      .memRead (slotAt s.memTable (lin seg off).toNat) (lin seg off) (readLoc8 (.mem seg off) s).1 :: s.events :=
  busRead8_events_of_opaque h

theorem writeLoc8_events_of_opaque (v : Byte) :
    (writeLoc8 (.mem seg off) v s).events =
      .memWrite (slotAt s.memTable (lin seg off).toNat) (lin seg off) v :: s.events :=
  congrArg State.events (busWrite8_of_opaque v h)

/-- A destination other than CMP's is read once and then written once (41_arithmetic.md R265). -/
theorem alu8_events_of_opaque {op : AluOp} (hop : op ≠ .cmp) (g : Reg8) :
    (alu8 op (.mem seg off) (.reg g) s).events =
      .memWrite (slotAt s.memTable (lin seg off).toNat) (lin seg off)
          (aluFlags op (readLoc8 (.mem seg off) s).1 (reg8 g s) s.flags).1
        :: .memRead (slotAt s.memTable (lin seg off).toNat) (lin seg off) (readLoc8 (.mem seg off) s).1 :: s.events := by
  simp only [alu8, aluApply8, if_neg hop, readLoc8_ofReg, readLoc8_reg8, readLoc8_flags]
  rw [writeLoc8_events_of_opaque (by simpa using h), setFlags_events, readLoc8_events_of_opaque h, setFlags_memTable,
    readLoc8_memTable]

theorem alu8_cmp_events_of_opaque (g : Reg8) :
    (alu8 .cmp (.mem seg off) (.reg g) s).events =
      .memRead (slotAt s.memTable (lin seg off).toNat) (lin seg off) (readLoc8 (.mem seg off) s).1 :: s.events :=
  readLoc8_events_of_opaque h

theorem exchange8_events_of_opaque (g : Reg8) :
    (exchange8 (.mem seg off) (.reg g) s).events =
      .memWrite (slotAt s.memTable (lin seg off).toNat) (lin seg off) (reg8 g s)
        :: .memRead (slotAt s.memTable (lin seg off).toNat) (lin seg off) (readLoc8 (.mem seg off) s).1 :: s.events := by
  simp only [exchange8, readLoc8_ofReg, readLoc8_reg8]
  show (writeLoc8 (.mem seg off) _ _).events = _
  rw [writeLoc8_events_of_opaque (by simpa using h), readLoc8_events_of_opaque h, readLoc8_memTable]

end opaqueOperand

/-- Settles O28: each row by the accesses of its shape. -/
theorem opaqueDeviceSeesEachAccessOnce : Obligations.OpaqueDeviceSeesEachAccessOnce := by
  rintro s m g op sh _ _ rfl h rfl
  refine ⟨fun hop => ⟨_, exec_aluRmReg8 op _ g s, ?alu⟩, ⟨_, rfl, ?xchg⟩, ⟨_, rfl, ?mov⟩, ⟨_, rfl, ?cmp⟩, ⟨_, rfl, ?test⟩,
    fun hcnt => ⟨_, exec_shiftByClR8 sh _ s, ?shift⟩⟩
  case alu => exact alu8_events_of_opaque h hop g
  case xchg => exact exchange8_events_of_opaque h g
  case mov => exact writeLoc8_events_of_opaque h (reg8 g s)
  case cmp => exact alu8_cmp_events_of_opaque h g
  case test => exact readLoc8_events_of_opaque h
  case shift =>
    unfold shift8
    rw [if_pos hcnt]
    exact readLoc8_events_of_opaque h

/-! ### What a bus access depends on (20_memory.md R84) -/

/-- `t` answers every bus access as `s` does: contents, device record, tables and the kinds of the devices are the same. -/
structure SameBus (s t : State) : Prop where
  mem : t.mem = s.mem
  events : t.events = s.events
  draws : t.draws = s.draws
  memTable : t.memTable = s.memTable
  ioTable : t.ioTable = s.ioTable
  kinds : t.peripherals.map (·.kind) = s.peripherals.map (·.kind)

section sameBus

variable {s t u : State}

theorem SameBus.refl (s : State) : SameBus s s := ⟨rfl, rfl, rfl, rfl, rfl, rfl⟩

theorem SameBus.trans (h : SameBus s t) (h' : SameBus t u) : SameBus s u where
  mem := h'.mem.trans h.mem
  events := h'.events.trans h.events
  draws := h'.draws.trans h.draws
  memTable := h'.memTable.trans h.memTable
  ioTable := h'.ioTable.trans h.ioTable
  kinds := h'.kinds.trans h.kinds

theorem SameBus.kindAt_eq (h : SameBus s t) (a : Addr) : kindAt t a = kindAt s a := by
  unfold kindAt
  rw [h.memTable]
  split
  · rfl
  · rw [← List.getElem?_map, ← List.getElem?_map, h.kinds]

theorem SameBus.drawAnswer (h : SameBus s t) (slot addr : Nat) (mk : Byte → DevEvent) :
    SameBus (drawAnswer slot addr mk s).2 (drawAnswer slot addr mk t).2 where
  mem := h.mem
  events := by simp only [Machine.drawAnswer, h.draws, h.events]
  draws := congrArg (· + 1) h.draws
  memTable := h.memTable
  ioTable := h.ioTable
  kinds := h.kinds

theorem SameBus.cons_event (h : SameBus s t) {e e' : DevEvent} (he : e' = e) :
    SameBus { s with events := e :: s.events } { t with events := e' :: t.events } where
  mem := h.mem
  events := congrArg₂ List.cons he h.events
  draws := h.draws
  memTable := h.memTable
  ioTable := h.ioTable
  kinds := h.kinds

theorem SameBus.busWrite8 (h : SameBus s t) (a : Addr) (v : Byte) : SameBus (busWrite8 a v s) (busWrite8 a v t) := by
  unfold Machine.busWrite8
  rw [h.kindAt_eq]
  split
  · exact h
  · exact ⟨congrArg (Memory.write · a.toNat v) h.mem, h.events, h.draws, h.memTable, h.ioTable, h.kinds⟩
  · exact h
  · exact h.cons_event (by rw [h.memTable])

theorem SameBus.ioOut8 (h : SameBus s t) (p : Word) (v : Byte) : SameBus (ioOut8 p v s) (ioOut8 p v t) := by
  have hslot : slotAt t.ioTable p.toNat = slotAt s.ioTable p.toNat := by rw [h.ioTable]
  by_cases hk : slotAt s.ioTable p.toNat = 0
  · rw [ioOut8_of_unmapped v hk, ioOut8_of_unmapped v (hslot.trans hk)]
    exact h
  · rw [ioOut8_of_mapped v rfl hk, ioOut8_of_mapped v hslot hk]
    exact h.cons_event rfl

theorem SameBus.runBusOp (h : SameBus s t) (op : BusOp) : SameBus (runBusOp op s) (runBusOp op t) := by
  cases op with
  | read a =>
    simp only [Machine.runBusOp, busRead8]
    rw [h.kindAt_eq, h.memTable]
    split
    · exact h
    · exact h
    · exact h
    · exact h.drawAnswer _ _ _
  | write a v => exact h.busWrite8 a v
  | portIn p =>
    simp only [Machine.runBusOp, ioIn8]
    rw [h.ioTable]
    split
    · exact h
    · exact h.drawAnswer _ _ _
  | portOut p v => exact h.ioOut8 p v
  | raiseIrq line => exact h.cons_event rfl

theorem SameBus.runBusOps (h : SameBus s t) (ops : List BusOp) : SameBus (runBusOps ops s) (runBusOps ops t) := by
  induction ops generalizing s t with
  | nil => exact h
  | cons op ops ih => exact ih (h.runBusOp op)

theorem runBusOps_append (ops ops' : List BusOp) (s : State) :
    runBusOps (ops ++ ops') s = runBusOps ops' (runBusOps ops s) := by
  induction ops generalizing s with
  | nil => rfl
  | cons op ops ih => exact ih (runBusOp op s)

end sameBus

/-! ### The tick phase (60_exceptions.md R502 items 8 to 10, R526) -/

/-- The accesses of the coming ticks of `ps`, in registration order. -/
def tickOps (ps : List Peripheral) : List BusOp := ps.flatMap fun p => p.nextTick.1.ops

/-- `t` is `s` after the bus accesses `ops`, with the roster `ps`: the registers and the instruction counter stay. -/
structure Ticked (ops : List BusOp) (ps : List Peripheral) (s t : State) : Prop where
  gpr : t.gpr = s.gpr
  seg : t.seg = s.seg
  ip : t.ip = s.ip
  flags : t.flags = s.flags
  icount : t.icount = s.icount
  peripherals : t.peripherals = ps
  bus : SameBus (runBusOps ops s) t

theorem Ticked.trans {ops ops' : List BusOp} {ps ps' : List Peripheral} {s t u : State} (h : Ticked ops ps s t)
    (h' : Ticked ops' ps' t u) : Ticked (ops ++ ops') ps' s u where
  gpr := h'.gpr.trans h.gpr
  seg := h'.seg.trans h.seg
  ip := h'.ip.trans h.ip
  flags := h'.flags.trans h.flags
  icount := h'.icount.trans h.icount
  peripherals := h'.peripherals
  bus := by
    rw [runBusOps_append]
    exact (h.bus.runBusOps ops').trans h'.bus

/-- The tick of peripheral number `k`, which is `p`. -/
def tickOne (k : Nat) (p : Peripheral) (s : State) : State :=
  runBusOps p.nextTick.1.ops { s with peripherals := s.peripherals.set k p.nextTick.2 }

theorem tickFrom_of_noError {n k : Nat} {s : State} {p : Peripheral} (hp : s.peripherals[k]? = some p)
    (he : p.nextTick.1.error = none) : tickFrom (n + 1) k s = tickFrom n (k + 1) (tickOne k p s) := by
  rw [tickFrom, hp]
  dsimp only
  rw [he]
  rfl

theorem tickFrom_of_error {n k e : Nat} {s : State} {p : Peripheral} (hp : s.peripherals[k]? = some p)
    (he : p.nextTick.1.error = some e) : tickFrom (n + 1) k s = .fault (.peripheralError e (tickOne k p s)) := by
  rw [tickFrom, hp]
  dsimp only
  rw [he]
  rfl

theorem tickOne_ticked {s : State} {done rest : List Peripheral} {p : Peripheral} (hp : s.peripherals = done ++ p :: rest) :
    Ticked p.nextTick.1.ops (done ++ p.nextTick.2 :: rest) s (tickOne done.length p s) := by
  have hset : s.peripherals.set done.length p.nextTick.2 = done ++ p.nextTick.2 :: rest := by simp [hp]
  have hbus : SameBus s { s with peripherals := s.peripherals.set done.length p.nextTick.2 } :=
    ⟨rfl, rfl, rfl, rfl, rfl, kinds_set_nextTick (by simp [hp])⟩
  obtain ⟨hsys, hgpr, hseg, hip, hflags⟩ :=
    runBusOps_frame p.nextTick.1.ops { s with peripherals := s.peripherals.set done.length p.nextTick.2 }
  obtain ⟨-, -, hic, -, -, -, -, -, hper, -⟩ := sameSystem_iff.1 hsys
  exact ⟨hgpr, hseg, hip, hflags, hic, hper.trans hset, hbus.runBusOps _⟩

/-- The tick phase gets past the peripherals `todo`, none of which returns an error, by their ticks. -/
theorem tickFrom_append {todo done rest : List Peripheral} {s : State} (hp : s.peripherals = done ++ (todo ++ rest))
    (he : ∀ p ∈ todo, p.nextTick.1.error = none) :
    ∃ t, Ticked (tickOps todo) (done ++ (todo.map (·.nextTick.2) ++ rest)) s t ∧
      ∀ m, tickFrom (m + todo.length) done.length s = tickFrom m (done.length + todo.length) t := by
  induction todo generalizing done s with
  | nil => exact ⟨s, ⟨rfl, rfl, rfl, rfl, rfl, hp, .refl s⟩, fun _ => rfl⟩
  | cons p todo ih =>
    have hone := tickOne_ticked hp
    obtain ⟨t, ht, hrun⟩ := ih (done := done ++ [p.nextTick.2]) (s := tickOne done.length p s)
      (by rw [hone.peripherals]; simp) fun q hq => he q (List.mem_cons_of_mem p hq)
    refine ⟨t, ?_, fun m => ?_⟩
    · simpa [tickOps] using hone.trans ht
    · rw [List.length_append, List.length_singleton] at hrun
      rw [List.length_cons, ← Nat.add_assoc, tickFrom_of_noError (by simp [hp]) (he p (List.mem_cons_self ..)), hrun]
      congr 1
      omega

/-- The tick phase begins with the cycle count fixed, which no access looks at. -/
theorem ticked_cycles (c : Nat) (s : State) : Ticked [] s.peripherals s { s with cycles := c } :=
  ⟨rfl, rfl, rfl, rfl, rfl, rfl, rfl, rfl, rfl, rfl, rfl, rfl⟩

theorem finishStep_of_noError {s : State} (he : ∀ p ∈ s.peripherals, p.nextTick.1.error = none) :
    ∃ t, Ticked (tickOps s.peripherals) (s.peripherals.map (·.nextTick.2)) s t ∧
      finishStep s = .next { t with icount := t.icount + 1#64 } := by
  obtain ⟨t, ht, hrun⟩ := tickFrom_append (s := { s with cycles := Config.cyclesPerStep }) (done := []) (rest := [])
    (todo := s.peripherals) (by simp) he
  refine ⟨t, by simpa using (ticked_cycles Config.cyclesPerStep s).trans ht, ?_⟩
  have hall : tickAll { s with cycles := Config.cyclesPerStep } = .next t := by simpa [tickAll, tickFrom] using hrun 0
  rw [finishStep, hall]
  rfl

theorem finishStep_of_error {s : State} {todo rest : List Peripheral} {p : Peripheral} {e : Nat}
    (hp : s.peripherals = todo ++ p :: rest) (he : ∀ q ∈ todo, q.nextTick.1.error = none)
    (hpe : p.nextTick.1.error = some e) :
    ∃ t, Ticked (tickOps (todo ++ [p])) (todo.map (·.nextTick.2) ++ p.nextTick.2 :: rest) s t ∧
      finishStep s = .fault (.peripheralError e t) := by
  obtain ⟨t, ht, hrun⟩ := tickFrom_append (s := { s with cycles := Config.cyclesPerStep }) (done := []) hp he
  have hone := tickOne_ticked ht.peripherals
  rw [List.length_map] at hone
  refine ⟨tickOne todo.length p t,
    by simpa [tickOps] using ((ticked_cycles Config.cyclesPerStep s).trans ht).trans hone, ?_⟩
  have hlen : s.peripherals.length = (rest.length + 1) + todo.length := by
    simp [hp]
    omega
  have hall : tickAll { s with cycles := Config.cyclesPerStep } = .fault (.peripheralError e (tickOne todo.length p t)) := by
    rw [← tickFrom_of_error (n := rest.length) (by simp [ht.peripherals]) hpe]
    simpa [tickAll, hlen] using hrun (rest.length + 1)
  rw [finishStep, hall]
  rfl

/-- Lists that differ up to one place agree after it. -/
theorem getElem?_append_cons_congr {α : Type} {l l' rest : List α} {x y : α} {j : Nat} (hl : l.length = l'.length)
    (hj : l'.length < j) : (l ++ x :: rest)[j]? = (l' ++ y :: rest)[j]? := by
  obtain ⟨i, rfl⟩ := Nat.exists_eq_add_of_lt hj
  rw [List.getElem?_append_right (by omega), List.getElem?_append_right (by omega), hl, List.getElem?_cons,
    List.getElem?_cons, if_neg (by omega), if_neg (by omega)]

/-- Settles O15, by the peripherals before the first that returns an error. -/
theorem tickPhaseRunsPeripheralsUntilAnError : Obligations.TickPhaseRunsPeripheralsUntilAnError := by
  refine ⟨fun s he => ?_, fun s k e p hk hpe he => ?_⟩
  · obtain ⟨t, ht, hrun⟩ := finishStep_of_noError he
    refine ⟨_, hrun, ht.peripherals, ht.gpr, ht.seg, ht.ip, ht.flags, congrArg (· + 1#64) ht.icount, ?_⟩
    rintro _ rfl
    exact ⟨ht.bus.mem, ht.bus.events, ht.bus.draws⟩
  · obtain ⟨hlt, rfl⟩ := List.getElem?_eq_some_iff.1 hk
    have hsplit : s.peripherals = s.peripherals.take k ++ s.peripherals[k] :: s.peripherals.drop (k + 1) := by
      rw [List.getElem_cons_drop, List.take_append_drop]
    have hbefore : ∀ q ∈ s.peripherals.take k, q.nextTick.1.error = none := by
      intro q hq
      obtain ⟨j, hj, rfl⟩ := List.mem_take_iff_getElem.1 hq
      exact he j _ (by omega) (List.getElem?_eq_getElem _)
    obtain ⟨t, ht, hrun⟩ := finishStep_of_error hsplit hbefore hpe
    refine ⟨t, hrun, ht.gpr, ht.seg, ht.ip, ht.flags, ht.icount, fun j hj => ?_, ?_⟩
    · rw [ht.peripherals]
      conv_rhs => rw [hsplit]
      exact getElem?_append_cons_congr (List.length_map _) (by rw [List.length_take]; omega)
    · rintro _ rfl
      rw [← List.take_append_getElem hlt]
      exact ⟨ht.bus.mem, ht.bus.events, ht.bus.draws⟩

/-! ### Installation (20_memory.md R76 to R78) -/

/-- Two installations may stand in one table: they are one device's or share no address (20_memory.md R78). -/
def Range.Compatible (r q : Range) : Prop := q.slot = r.slot ∨ r.meets q = false

theorem Range.meets_comm (r q : Range) : r.meets q = q.meets r := Bool.and_comm _ _

theorem Range.Compatible.symm {r q : Range} (h : r.Compatible q) : q.Compatible r :=
  h.imp Eq.symm (Range.meets_comm q r).trans

/-- Two ranges that contain `a` meet. -/
theorem Range.meets_of_mem {r q : Range} {a : Nat} (hr : r.lo ≤ a) (hr' : a ≤ r.hi) (hq : q.lo ≤ a) (hq' : a ≤ q.hi) :
    r.meets q = true := by
  simp only [Range.meets, Bool.and_eq_true, decide_eq_true_eq]
  omega

theorem Table.freeFor_iff {t : Table} {r : Range} : t.freeFor r = true ↔ ∀ q ∈ t, r.Compatible q := by
  simp [Table.freeFor, Range.Compatible]

theorem Table.exclusive_iff_pairwise {t : Table} : t.exclusive = true ↔ t.Pairwise Range.Compatible := by
  induction t with
  | nil => simp [Table.exclusive]
  | cons r t ih => rw [Table.exclusive, Bool.and_eq_true, Table.freeFor_iff, ih, List.pairwise_cons]

theorem Table.compatible_of_exclusive {t : Table} (h : t.exclusive = true) {r q : Range} (hr : r ∈ t) (hq : q ∈ t) :
    r.Compatible q :=
  (Table.exclusive_iff_pairwise.1 h).forall_of_forall_of_flip (fun _ _ => .inl rfl)
    ((Table.exclusive_iff_pairwise.1 h).imp Range.Compatible.symm) hr hq

/-- What one installation without error does. -/
theorem installRange_of_noError {n : Nat} {r : Range} {t : Table} (h : (installRange n r t).2 = []) :
    (installRange n r t).1 = r :: t ∧ 1 ≤ r.slot ∧ r.slot ≤ n ∧ t.freeFor r = true := by
  unfold installRange at h ⊢
  split at h
  · cases h
  · next hslot =>
    split at h
    · next hfree =>
      rw [if_neg hslot, if_pos hfree]
      exact ⟨rfl, by omega, by omega, hfree⟩
    · cases h

/-- What installations without error leave in the table: all of their ranges, each in a slot of the roster, no address claimed
by two devices. -/
theorem installAll_of_noError {n : Nat} {rs : List Range} {t : Table} (h : (installAll n rs t).2 = []) :
    (installAll n rs t).1 = rs.reverse ++ t ∧ (∀ r ∈ rs, 1 ≤ r.slot ∧ r.slot ≤ n) ∧
      (t.exclusive = true → (installAll n rs t).1.exclusive = true) := by
  induction rs generalizing t with
  | nil => exact ⟨rfl, nofun, id⟩
  | cons r rs ih =>
    obtain ⟨hone, hrest⟩ := List.append_eq_nil_iff.1 h
    obtain ⟨htab, hlo, hhi, hfree⟩ := installRange_of_noError hone
    obtain ⟨ihtab, ihslots, ihexcl⟩ := ih hrest
    rw [htab] at ihtab ihexcl
    have hall : (installAll n (r :: rs) t).1 = (installAll n rs (r :: t)).1 := by rw [installAll, htab]
    rw [hall]
    refine ⟨by simp [ihtab], List.forall_mem_cons.2 ⟨⟨hlo, hhi⟩, ihslots⟩, fun ht => ihexcl ?_⟩
    rw [Table.exclusive, hfree, ht]
    rfl

/-- The ranges a fitting asks for in a space (60_exceptions.md R541). -/
def Fitting.ranges (sp : Space) (f : Fitting) : List (Nat × Nat) :=
  match sp with
  | .memory => f.memory
  | .io => f.io

theorem requests_cons (sp : Space) (k : Nat) (f : Fitting) (fs : List Fitting) :
    requests sp k (f :: fs) =
      (f.ranges sp).map (fun p => { lo := p.1, hi := p.2, slot := k }) ++ requests sp (k + 1) fs := by
  cases sp <;> rfl

/-- A range the `i`-th fitting asks for is requested in its slot (20_memory.md R77). -/
theorem mem_requests {sp : Space} {fs : List Fitting} {k i : Nat} {f : Fitting} {r : Nat × Nat} (hf : fs[i]? = some f)
    (hr : r ∈ f.ranges sp) : { lo := r.1, hi := r.2, slot := k + i } ∈ requests sp k fs := by
  induction fs generalizing k i with
  | nil => cases hf
  | cons g fs ih =>
    rw [requests_cons, List.mem_append]
    cases i with
    | zero =>
      cases hf
      exact .inl (List.mem_map_of_mem hr)
    | succ i =>
      have := ih (k := k + 1) hf
      rw [Nat.add_right_comm] at this
      exact .inr this

/-- `Install()` on the table of a space (20_memory.md R77). -/
def Platform.mapOf (p : Platform) (sp : Space) : Table × List InstallError :=
  installAll p.fittings.length (requests sp 1 p.fittings) emptyTable

theorem Platform.mapOf_memory (p : Platform) : p.mapOf .memory = p.memoryMap := rfl

theorem Platform.mapOf_io (p : Platform) : p.mapOf .io = p.ioMap := rfl

/-- A table installed without an error keeps two devices off one address, and holds every request. -/
theorem Platform.mapOf_of_noError {p : Platform} {sp : Space} (h : (p.mapOf sp).2 = []) :
    (∀ r, r ∈ (p.mapOf sp).1 ↔ r ∈ requests sp 1 p.fittings) ∧
      (∀ r ∈ (p.mapOf sp).1, 1 ≤ r.slot ∧ r.slot ≤ p.fittings.length) ∧ (p.mapOf sp).1.exclusive = true := by
  obtain ⟨htab, hslots, hexcl⟩ := installAll_of_noError h
  have hmem : ∀ r, r ∈ (p.mapOf sp).1 ↔ r ∈ requests sp 1 p.fittings := fun r => by
    rw [Platform.mapOf, htab]
    simp [emptyTable]
  exact ⟨hmem, fun r hr => hslots r ((hmem r).1 hr), hexcl rfl⟩

/-- Two devices do not share an address of a table that was installed without an error (20_memory.md R78). -/
theorem Platform.eq_of_shared_address {p : Platform} {sp : Space} (h : (p.mapOf sp).2 = []) {i j a : Nat} {f g : Fitting}
    {r q : Nat × Nat} (hf : p.fittings[i]? = some f) (hg : p.fittings[j]? = some g) (hr : r ∈ f.ranges sp)
    (hq : q ∈ g.ranges sp) (hra : r.1 ≤ a) (har : a ≤ r.2) (hqa : q.1 ≤ a) (haq : a ≤ q.2) : i = j := by
  obtain ⟨hmem, -, hexcl⟩ := Platform.mapOf_of_noError h
  rcases Table.compatible_of_exclusive hexcl ((hmem _).2 (mem_requests hf hr)) ((hmem _).2 (mem_requests hg hq)) with
    hslot | hmeets
  · exact (Nat.add_left_cancel hslot).symm
  · rw [Range.meets_of_mem hra har hqa haq] at hmeets
    cases hmeets

theorem Platform.mapOf_inBounds {p : Platform} {sp : Space} (h : (p.mapOf sp).2 = [])
    (hfit : rangesFit sp (requests sp 1 p.fittings) = true) :
    (p.mapOf sp).1.inBounds p.fittings.length sp.size = true := by
  obtain ⟨hmem, hslots, -⟩ := Platform.mapOf_of_noError h
  simp only [rangesFit, Table.inBounds, List.all_eq_true, Bool.and_eq_true, decide_eq_true_eq] at hfit ⊢
  exact fun r hr => ⟨hslots r hr, (hfit r ((hmem r).1 hr)).2⟩

/-- What an admitted platform has met (20_memory.md R78). -/
theorem Platform.admitted_iff {p : Platform} : p.admitted = true ↔
    ((∀ sp, (p.mapOf sp).2 = []) ∧ (∀ sp, rangesFit sp (requests sp 1 p.fittings) = true)) ∧
      p.fittings.length ≤ Config.maxPeripherals ∧ p.launch.wf = true := by
  have hsp : ∀ P : Space → Prop, (∀ sp, P sp) ↔ P .memory ∧ P .io :=
    fun P => ⟨fun h => ⟨h _, h _⟩, fun ⟨hm, hi⟩ sp => by cases sp <;> assumption⟩
  simp only [Platform.admitted, Platform.mapOf_memory, Platform.mapOf_io, Bool.and_eq_true, List.isEmpty_iff,
    decide_eq_true_eq, hsp]
  tauto

/-! ### What a platform boots to (70_reset_and_hazards.md R554) -/

theorem resetPeripherals_wf (ps : List Peripheral) {s : State} (h : s.mem.wf = true) :
    (resetPeripherals ps s).mem.wf = true := by
  induction ps generalizing s with
  | nil => exact h
  | cons p ps ih => exact ih (runBusOps_wf p.resetOps h)

theorem hostReset_wf {s : State} (h : s.mem.wf = true) : (hostReset s).mem.wf = true :=
  resetPeripherals_wf s.peripherals (s := clearedForReset s) h

/-- Two segment register files with the same four registers are equal. -/
theorem seg_eq_of_sreg {s t : State} (h : ∀ r, sreg r t = sreg r s) : t.seg = s.seg :=
  (SegRegs.mk.injEq ..).mpr ⟨h .es, h .cs, h .ss, h .ds⟩

/-- An admitted platform meets the invariant once the host has reset it. -/
theorem inv_hostReset_installed {p : Platform} (h : p.admitted = true) : Inv (hostReset p.installed) := by
  obtain ⟨⟨herr, hfit⟩, hlen, hwf⟩ := Platform.admitted_iff.1 h
  obtain ⟨-, -, -, hflags, -, -, -, -, hmt, hit, -, hper, -⟩ := hostResetState p.installed
  have hroster : (hostReset p.installed).peripherals.length = p.fittings.length := by
    rw [hper]
    exact List.length_map _
  replace hmt : (hostReset p.installed).memTable = (p.mapOf .memory).1 := hmt
  replace hit : (hostReset p.installed).ioTable = (p.mapOf .io).1 := hit
  constructor
  case mem => exact hostReset_wf hwf
  case reserved => rw [hflags]; rfl
  case roster => rwa [hroster]
  case memBounds => rw [hroster, hmt]; exact Platform.mapOf_inBounds (herr _) (hfit _)
  case memExclusive => rw [hmt]; exact (Platform.mapOf_of_noError (herr _)).2.2
  case ioBounds => rw [hroster, hit]; exact Platform.mapOf_inBounds (herr _) (hfit _)
  case ioExclusive => rw [hit]; exact (Platform.mapOf_of_noError (herr _)).2.2

/-- Settles O3: an admitted platform has tables in which no two devices share an address. -/
theorem bootAdmitsOnlyConflictFreePlatforms : Obligations.BootAdmitsOnlyConflictFreePlatforms := by
  refine ⟨fun p i j a f g r q hf hg hij hrq hra har hqa haq => if_neg fun hadm => hij ?_, fun p s hs => ?_⟩
  · obtain ⟨⟨herr, -⟩, -, -⟩ := Platform.admitted_iff.1 hadm
    rcases hrq with ⟨hr, hq⟩ | ⟨hr, hq⟩
    · exact Platform.eq_of_shared_address (herr .memory) hf hg hr hq hra har hqa haq
    · exact Platform.eq_of_shared_address (herr .io) hf hg hr hq hra har hqa haq
  · unfold boot at hs
    split at hs
    · next hadm =>
      cases hs
      obtain ⟨hregs, hsregs, hip, hflags, -⟩ := hostResetState p.installed
      refine ⟨inv_hostReset_installed hadm, gpr_eq_of_reg16 fun r => ?_, seg_eq_of_sreg fun r => ?_, hip, hflags⟩
      · rw [hregs]
        cases r <;> rfl
      · rw [hsregs]
        cases r <;> rfl
    · cases hs

end Sys2Proof.Machine

namespace Sys2Proof.Machine

section modRMFields

/-! ### ModRM bytes and codes (30_encoding.md R120, R123) -/

@[simp] theorem ModRM.ofByte_toByte : ∀ mr : ModRM, ModRM.ofByte mr.toByte = mr
  | ⟨mod, reg, rm⟩ => by
    revert mod reg rm
    decide

@[simp] theorem ModRM.toByte_ofByte (b : Byte) : (ModRM.ofByte b).toByte = b := by
  revert b
  decide

@[simp] theorem Reg8.ofCode_code (r : Reg8) : Reg8.ofCode r.code = r := by cases r <;> rfl

@[simp] theorem Reg16.ofCode_code (r : Reg16) : Reg16.ofCode r.code = r := by cases r <;> rfl

@[simp] theorem EaBase.ofCode_code (b : EaBase) : EaBase.ofCode b.code = b := by cases b <;> rfl

theorem EaBase.code_ofCode (c : BitVec 3) : (EaBase.ofCode c).code = c := by
  revert c
  decide

/-- Only `[BP]` has the code that `mod` 0 gives to the direct address. -/
theorem EaBase.code_eq_six_iff (b : EaBase) : b.code = 6#3 ↔ b = .bp := by cases b <;> decide

end modRMFields

section decodeOfEncode

variable {m : CpuMode} {rest : List Byte}

/-! ### Each format read back from its encoding (30_encoding.md R114, R115) -/

theorem withModRM_toByte (k : ModRM → List Byte → Dec) (mr : ModRM) (bs : List Byte) :
    withModRM k (mr.toByte :: bs) = k mr bs := by
  rw [withModRM, ModRM.ofByte_toByte]

theorem fmtImm16_encWord (k : Word → Instr) (v : Word) : fmtImm16 k (encWord v ++ rest) = .ok (k v, rest) :=
  congrArg (fun w => Except.ok (k w, rest)) (wordOfBytes_lo_hi v)

theorem fmtPtr_encWord (k : Word → Word → Instr) (off seg : Word) :
    fmtPtr k (encWord off ++ encWord seg ++ rest) = .ok (k off seg, rest) := by
  show Except.ok (k (wordOfBytes (loByte off) (hiByte off)) (wordOfBytes (loByte seg) (hiByte seg)), rest) = _
  rw [wordOfBytes_lo_hi, wordOfBytes_lo_hi]

theorem fmtImm16Imm8_encWord (k : Word → Byte → Instr) (v : Word) (b : Byte) :
    fmtImm16Imm8 k (encWord v ++ [b] ++ rest) = .ok (k v b, rest) :=
  congrArg (fun w => Except.ok (k w b, rest)) (wordOfBytes_lo_hi v)

/-- A decoder that goes on with a memory operand finds the one that was encoded (30_encoding.md R123). -/
theorem withModRM_encMem {D : ModRM → List Byte → Dec} {reg : BitVec 3} {k : MemOp → List Byte → Dec}
    (hD : ∀ mod rm, mod ≠ 3#2 → D ⟨mod, reg, rm⟩ = withMem ⟨mod, reg, rm⟩ k) {mo : MemOp} (hmo : mo.wellFormed = true) :
    withModRM D (encMem reg mo ++ rest) = k mo rest := by
  have hread (mod : BitVec 2) (rm : BitVec 3) (hmod : mod ≠ 3#2) (bs : List Byte) :
      withModRM D (ModRM.toByte ⟨mod, reg, rm⟩ :: bs) = withMem ⟨mod, reg, rm⟩ k bs :=
    (withModRM_toByte D _ _).trans (congrFun (hD mod rm hmod) bs)
  cases mo with
  | direct a =>
    exact (hread _ _ (by decide) _).trans (congrArg (fun w => k (.direct w) rest) (wordOfBytes_lo_hi a))
  | disp0 b =>
    have hb : b.code ≠ 6#3 := by simpa [EaBase.code_eq_six_iff, MemOp.wellFormed] using hmo
    refine (hread _ _ (by decide) _).trans ((if_neg hb).trans ?_)
    exact congrArg (fun b => k (.disp0 b) rest) (EaBase.ofCode_code b)
  | disp8 b d =>
    exact (hread _ _ (by decide) _).trans (congrArg (fun b => k (.disp8 b d) rest) (EaBase.ofCode_code b))
  | disp16 b d =>
    refine (hread _ _ (by decide) _).trans ?_
    show k (.disp16 (EaBase.ofCode b.code) (wordOfBytes (loByte d) (hiByte d))) rest = _
    rw [EaBase.ofCode_code, wordOfBytes_lo_hi]

/-- A decoder that goes on with an `r/m8` operand finds the one that was encoded (30_encoding.md R122, R123). -/
theorem withModRM_encRM8 {D : ModRM → List Byte → Dec} {reg : BitVec 3} {k : RM Reg8 → List Byte → Dec}
    (hD : ∀ mod rm, D ⟨mod, reg, rm⟩ = withRM8 ⟨mod, reg, rm⟩ k) {e : RM Reg8} (he : e.wellFormed = true) :
    withModRM D (encRM8 reg e ++ rest) = k e rest := by
  cases e with
  | reg r =>
    refine (withModRM_toByte D _ _).trans ?_
    rw [hD]
    exact congrArg (fun r => k (.reg r) rest) (Reg8.ofCode_code r)
  | mem mo =>
    refine withModRM_encMem (k := fun mo => k (.mem mo)) (fun mod rm hmod => ?_) he
    rw [hD]
    exact funext fun bs => if_neg hmod

theorem withModRM_encRM16 {D : ModRM → List Byte → Dec} {reg : BitVec 3} {k : RM Reg16 → List Byte → Dec}
    (hD : ∀ mod rm, D ⟨mod, reg, rm⟩ = withRM16 ⟨mod, reg, rm⟩ k) {e : RM Reg16} (he : e.wellFormed = true) :
    withModRM D (encRM16 reg e ++ rest) = k e rest := by
  cases e with
  | reg r =>
    refine (withModRM_toByte D _ _).trans ?_
    rw [hD]
    exact congrArg (fun r => k (.reg r) rest) (Reg16.ofCode_code r)
  | mem mo =>
    refine withModRM_encMem (k := fun mo => k (.mem mo)) (fun mod rm hmod => ?_) he
    rw [hD]
    exact funext fun bs => if_neg hmod

theorem fmtE8G8_encRM8 (k : RM Reg8 → Reg8 → Instr) {e : RM Reg8} (g : Reg8) (he : e.wellFormed = true) :
    fmtE8G8 k (encRM8 g.code e ++ rest) = .ok (k e g, rest) := by
  refine (withModRM_encRM8 (k := fun e => fmtOp (k e (Reg8.ofCode g.code))) (fun _ _ => rfl) he).trans ?_
  rw [Reg8.ofCode_code, fmtOp]

theorem fmtE16G16_encRM16 (k : RM Reg16 → Reg16 → Instr) {e : RM Reg16} (g : Reg16) (he : e.wellFormed = true) :
    fmtE16G16 k (encRM16 g.code e ++ rest) = .ok (k e g, rest) := by
  refine (withModRM_encRM16 (k := fun e => fmtOp (k e (Reg16.ofCode g.code))) (fun _ _ => rfl) he).trans ?_
  rw [Reg16.ofCode_code, fmtOp]

/-- The forms with the register operand first. -/
theorem fmtE8G8_swap_encRM8 (k : Reg8 → RM Reg8 → Instr) {e : RM Reg8} (g : Reg8) (he : e.wellFormed = true) :
    fmtE8G8 (fun e g => k g e) (encRM8 g.code e ++ rest) = .ok (k g e, rest) :=
  fmtE8G8_encRM8 (fun e g => k g e) g he

theorem fmtE16G16_swap_encRM16 (k : Reg16 → RM Reg16 → Instr) {e : RM Reg16} (g : Reg16) (he : e.wellFormed = true) :
    fmtE16G16 (fun e g => k g e) (encRM16 g.code e ++ rest) = .ok (k g e, rest) :=
  fmtE16G16_encRM16 (fun e g => k g e) g he

theorem fmtG16M_encMem (k : Reg16 → MemOp → Instr) (bad : Instr) (g : Reg16) {mo : MemOp} (hmo : mo.wellFormed = true) :
    fmtG16M k bad (encMem g.code mo ++ rest) = .ok (k g mo, rest) := by
  refine (withModRM_encMem (k := fun mo => fmtOp (k (Reg16.ofCode g.code) mo)) (fun _ _ hmod => if_neg hmod) hmo).trans ?_
  rw [Reg16.ofCode_code, fmtOp]

/-! ### The group entries (30_encoding.md R131): `D` is the group, `hD` says which entry `reg` selects -/

section

variable {D : ModRM → List Byte → Dec} {reg : BitVec 3}

theorem grpE8_encRM8 {k : RM Reg8 → Instr} (hD : ∀ mod rm, D ⟨mod, reg, rm⟩ = grpE8 k ⟨mod, reg, rm⟩) {e : RM Reg8}
    (he : e.wellFormed = true) : withModRM D (encRM8 reg e ++ rest) = .ok (k e, rest) :=
  withModRM_encRM8 hD he

theorem grpE16_encRM16 {k : RM Reg16 → Instr} (hD : ∀ mod rm, D ⟨mod, reg, rm⟩ = grpE16 k ⟨mod, reg, rm⟩) {e : RM Reg16}
    (he : e.wellFormed = true) : withModRM D (encRM16 reg e ++ rest) = .ok (k e, rest) :=
  withModRM_encRM16 hD he

theorem grpE8Imm8_encRM8 {k : RM Reg8 → Byte → Instr} (hD : ∀ mod rm, D ⟨mod, reg, rm⟩ = grpE8Imm8 k ⟨mod, reg, rm⟩)
    {e : RM Reg8} (he : e.wellFormed = true) (v : Byte) :
    withModRM D (encRM8 reg e ++ [v] ++ rest) = .ok (k e v, rest) := by
  rw [List.append_assoc]
  exact withModRM_encRM8 hD he

theorem grpE16Imm8_encRM16 {k : RM Reg16 → Byte → Instr} (hD : ∀ mod rm, D ⟨mod, reg, rm⟩ = grpE16Imm8 k ⟨mod, reg, rm⟩)
    {e : RM Reg16} (he : e.wellFormed = true) (v : Byte) :
    withModRM D (encRM16 reg e ++ [v] ++ rest) = .ok (k e v, rest) := by
  rw [List.append_assoc]
  exact withModRM_encRM16 hD he

theorem grpE16Imm16_encRM16 {k : RM Reg16 → Word → Instr}
    (hD : ∀ mod rm, D ⟨mod, reg, rm⟩ = grpE16Imm16 k ⟨mod, reg, rm⟩) {e : RM Reg16} (he : e.wellFormed = true) (v : Word) :
    withModRM D (encRM16 reg e ++ encWord v ++ rest) = .ok (k e v, rest) := by
  rw [List.append_assoc]
  exact (withModRM_encRM16 hD he).trans (fmtImm16_encWord (k e) v)

theorem grpM_encMem {k : MemOp → Instr} {bad : Instr} (hD : ∀ mod rm, D ⟨mod, reg, rm⟩ = grpM k bad ⟨mod, reg, rm⟩)
    {mo : MemOp} (hmo : mo.wellFormed = true) : withModRM D (encMem reg mo ++ rest) = .ok (k mo, rest) :=
  withModRM_encMem (k := fun mo => fmtOp (k mo)) (fun mod rm hmod => (hD mod rm).trans (funext fun _ => if_neg hmod)) hmo

end

/-- A word register, an `r/m16` operand and an immediate (46_v20_extensions.md R475). -/
theorem fmtG16E16Imm16_encRM16 {D : ModRM → List Byte → Dec} (k : Reg16 → RM Reg16 → Word → Instr)
    (hD : ∀ mr, D mr = grpE16Imm16 (k (Reg16.ofCode mr.reg)) mr) (g : Reg16) {e : RM Reg16} (he : e.wellFormed = true)
    (v : Word) : withModRM D (encRM16 g.code e ++ encWord v ++ rest) = .ok (k g e v, rest) := by
  refine (grpE16Imm16_encRM16 (k := k (Reg16.ofCode g.code)) (fun _ _ => hD _) he v).trans ?_
  rw [Reg16.ofCode_code]

theorem fmtG16E16Imm8_encRM16 {D : ModRM → List Byte → Dec} (k : Reg16 → RM Reg16 → Byte → Instr)
    (hD : ∀ mr, D mr = grpE16Imm8 (k (Reg16.ofCode mr.reg)) mr) (g : Reg16) {e : RM Reg16} (he : e.wellFormed = true)
    (v : Byte) : withModRM D (encRM16 g.code e ++ [v] ++ rest) = .ok (k g e v, rest) := by
  refine (grpE16Imm8_encRM16 (k := k (Reg16.ofCode g.code)) (fun _ _ => hD _) he v).trans ?_
  rw [Reg16.ofCode_code]

/-! ### The opcodes that hold a code in their low three bits -/

/-- What holds of each of the eight codes holds of all. -/
theorem code_cases {P : BitVec 3 → Prop} (h0 : P 0#3) (h1 : P 1#3) (h2 : P 2#3) (h3 : P 3#3) (h4 : P 4#3) (h5 : P 5#3)
    (h6 : P 6#3) (h7 : P 7#3) (c : BitVec 3) : P c := by
  have hc : c = 0#3 ∨ c = 1#3 ∨ c = 2#3 ∨ c = 3#3 ∨ c = 4#3 ∨ c = 5#3 ∨ c = 6#3 ∨ c = 7#3 := by
    revert c
    decide
  rcases hc with rfl | rfl | rfl | rfl | rfl | rfl | rfl | rfl <;> assumption

theorem decode_esc (x : BitVec 3) (bs : List Byte) : decode m (opPlus 0xD8#8 x :: bs) =
    withModRM (fun mr => withRM16 mr fun e => fmtOp (.esc x mr.reg e)) bs := by
  induction x using code_cases <;> rfl

/-! ### The rows of one mode (30_encoding.md R140) -/

theorem isV20_and {b : Bool} (h : (m.isV20 && b) = true) : m = .v20 ∧ b = true := by
  cases m with
  | i8088 => cases h
  | v20 => exact ⟨rfl, h⟩

theorem cpuMode_eq_of_isV20 (h : m.isV20 = true) : m = .v20 := by
  cases m with
  | i8088 => cases h
  | v20 => rfl

theorem cpuMode_eq_of_isI8088 (h : m.isI8088 = true) : m = .i8088 := by
  cases m with
  | i8088 => rfl
  | v20 => cases h

/-- By the format of the row (30_encoding.md R114, R116). The rows that no case names have no operand, or a byte that is read as
it stands. -/
theorem decode_encode {i : Instr} (h : i.wellFormed m = true) : decode m (encode i ++ rest) = .ok (i, rest) := by
  cases i
  case addEbGb | orEbGb | adcEbGb | sbbEbGb | andEbGb | subEbGb | xorEbGb | cmpEbGb | testEbGb | xchgEbGb | movEbGb =>
    exact fmtE8G8_encRM8 _ _ h
  case addGbEb | orGbEb | adcGbEb | sbbGbEb | andGbEb | subGbEb | xorGbEb | cmpGbEb | movGbEb =>
    exact fmtE8G8_swap_encRM8 _ _ h
  case addEvGv | orEvGv | adcEvGv | sbbEvGv | andEvGv | subEvGv | xorEvGv | cmpEvGv | testEvGv | xchgEvGv | movEvGv =>
    exact fmtE16G16_encRM16 _ _ h
  case addGvEv | orGvEv | adcGvEv | sbbGvEv | andGvEv | subGvEv | xorGvEv | cmpGvEv | movGvEv =>
    exact fmtE16G16_swap_encRM16 _ _ h
  case boundGvMa =>
    obtain ⟨rfl, hmo⟩ := isV20_and h
    exact fmtG16M_encMem _ _ _ hmo
  case leaGvM | lesGvMp | ldsGvMp => exact fmtG16M_encMem _ _ _ h
  case imulGvEvIw =>
    obtain ⟨rfl, he⟩ := isV20_and h
    exact fmtG16E16Imm16_encRM16 .imulGvEvIw (fun _ => by rfl) _ he _
  case imulGvEvIbS =>
    obtain ⟨rfl, he⟩ := isV20_and h
    exact fmtG16E16Imm8_encRM16 .imulGvEvIbS (fun _ => by rfl) _ he _
  case addEbIb | orEbIb | adcEbIb | sbbEbIb | andEbIb | subEbIb | xorEbIb | cmpEbIb | addEbIb82 | orEbIb82 | adcEbIb82
      | sbbEbIb82 | andEbIb82 | subEbIb82 | xorEbIb82 | cmpEbIb82 | movEbIb | testEbIb =>
    exact grpE8Imm8_encRM8 (fun _ _ => by rfl) h _
  case rolEbIb | rorEbIb | rclEbIb | rcrEbIb | shlEbIb | shrEbIb | sarEbIb =>
    obtain ⟨rfl, he⟩ := isV20_and h
    exact grpE8Imm8_encRM8 (fun _ _ => by rfl) he _
  case addEvIbS | orEvIbS | adcEvIbS | sbbEvIbS | andEvIbS | subEvIbS | xorEvIbS | cmpEvIbS =>
    exact grpE16Imm8_encRM16 (fun _ _ => by rfl) h _
  case rolEvIb | rorEvIb | rclEvIb | rcrEvIb | shlEvIb | shrEvIb | sarEvIb =>
    obtain ⟨rfl, he⟩ := isV20_and h
    exact grpE16Imm8_encRM16 (fun _ _ => by rfl) he _
  case addEvIw | orEvIw | adcEvIw | sbbEvIw | andEvIw | subEvIw | xorEvIw | cmpEvIw | movEvIw | testEvIw =>
    exact grpE16Imm16_encRM16 (fun _ _ => by rfl) h _
  case rolEb1 | rorEb1 | rclEb1 | rcrEb1 | shlEb1 | shrEb1 | sarEb1 | rolEbCl | rorEbCl | rclEbCl | rcrEbCl | shlEbCl
      | shrEbCl | sarEbCl | notEb | negEb | mulEb | imulEb | divEb | idivEb | incEb | decEb =>
    exact grpE8_encRM8 (fun _ _ => by rfl) h
  case movEwEs | movEwCs | movEwSs | movEwDs | movEsEw | movSsEw | movDsEw | popEv | rolEv1 | rorEv1 | rclEv1 | rcrEv1
      | shlEv1 | shrEv1 | sarEv1 | rolEvCl | rorEvCl | rclEvCl | rcrEvCl | shlEvCl | shrEvCl | sarEvCl | notEv | negEv
      | mulEv | imulEv | divEv | idivEv | incEv | decEv | callEv | jmpEv | pushEv =>
    exact grpE16_encRM16 (fun _ _ => by rfl) h
  case callMpFar | jmpMpFar => exact grpM_encMem (fun _ _ => by rfl) h
  case esc x g e => exact (decode_esc x _).trans (withModRM_encRM16 (k := fun e => fmtOp (.esc x g e)) (fun _ _ => rfl) h)
  case addAxIw | orAxIw | adcAxIw | sbbAxIw | andAxIw | subAxIw | xorAxIw | cmpAxIw | movAlOb | movAxOv | movObAl | movOvAx
      | testAxIw | retIw | retfIw | callRel16 | jmpRel16 =>
    exact fmtImm16_encWord _ _
  case pushIw =>
    obtain rfl := cpuMode_eq_of_isV20 h
    exact fmtImm16_encWord _ _
  case callPtr | jmpPtr => exact fmtPtr_encWord _ _ _
  case enterIwIb =>
    obtain rfl := cpuMode_eq_of_isV20 h
    exact fmtImm16Imm8_encWord _ _ _
  case incR16 r | decR16 r | pushR16 r | popR16 r | movR8Ib r _ => cases r <;> rfl
  case movR16Iw r _ => cases r <;> exact fmtImm16_encWord _ _
  case xchgAxR16 r =>
    cases r
    case ax => cases h
    all_goals rfl
  case pusha | popa | insb | insw | outsb | outsw | leave | pushIbS | illegal62mod3 | illegalC0r6 | illegalC1r6 =>
    obtain rfl := cpuMode_eq_of_isV20 h
    rfl
  case illegalI8088x60 | illegalI8088x61 | illegalI8088x62 | illegalI8088x68 | illegalI8088x69 | illegalI8088x6A
      | illegalI8088x6B | illegalI8088x6C | illegalI8088x6D | illegalI8088x6E | illegalI8088x6F | illegalI8088xC0
      | illegalI8088xC1 | illegalI8088xC8 | illegalI8088xC9 =>
    obtain rfl := cpuMode_eq_of_isI8088 h
    rfl
  all_goals rfl

end decodeOfEncode

/-- Settles O6, by the format of the row. -/
theorem decodeOfEncode : Obligations.DecodeOfEncode := fun _ _ _ h => decode_encode h

section reads

open Sys2Proof.Rows

variable {m : CpuMode} {pre : List Byte} {n : Nat}

/-! ### What a decoder reads is what is encoded -/

/-- `D`, which decodes what comes after the bytes `pre`, needs no more than `n` bytes; what it answers is well formed, uses bytes
from the front and, unless it is an illegal row, is encoded by `pre` and the bytes it used. -/
def Reads (m : CpuMode) (pre : List Byte) (n : Nat) (D : List Byte → Dec) : Prop :=
  ∀ bs, (n ≤ bs.length → ∃ r, D bs = .ok r) ∧
    ∀ i rest, D bs = .ok (i, rest) → i.wellFormed m = true ∧
      ∃ used, bs = used ++ rest ∧ used.length ≤ n ∧ (i ∉ illegalRows → encode i = pre ++ used)

theorem fmtOp_reads {i : Instr} (hw : i.wellFormed m = true) (he : i ∉ illegalRows → encode i = pre) :
    Reads m pre n (fmtOp i) := by
  refine fun bs => ⟨fun _ => ⟨_, rfl⟩, fun j rest h => ?_⟩
  cases h
  exact ⟨hw, [], rfl, Nat.zero_le n, fun hi => by rw [he hi, List.append_nil]⟩

/-- A decoder that takes one byte and goes on. -/
theorem reads_cons {D : List Byte → Dec} {e : DecodeErr} (hnil : D [] = .error e)
    (hcons : ∀ b, Reads m (pre ++ [b]) n fun bs => D (b :: bs)) : Reads m pre (n + 1) D := by
  intro bs
  cases bs with
  | nil => exact ⟨nofun, fun i rest h => by cases hnil.symm.trans h⟩
  | cons b bs =>
    obtain ⟨htotal, hsound⟩ := hcons b bs
    refine ⟨fun hn => htotal (Nat.le_of_succ_le_succ hn), fun i rest h => ?_⟩
    obtain ⟨hw, used, hbs, hlen, henc⟩ := hsound i rest h
    exact ⟨hw, b :: used, congrArg (b :: ·) hbs, Nat.succ_le_succ hlen,
      fun hi => (henc hi).trans (List.append_assoc pre [b] used)⟩

theorem reads_congr {D D' : List Byte → Dec} (h : ∀ bs, D bs = D' bs) (hD : Reads m pre n D') : Reads m pre n D :=
  (funext h : D = D') ▸ hD

theorem reads_mono {k : Nat} {D : List Byte → Dec} (hD : Reads m pre n D) (h : n ≤ k) : Reads m pre k D := by
  refine fun bs => ⟨fun hk => (hD bs).1 (h.trans hk), fun i rest hi => ?_⟩
  obtain ⟨hw, used, hbs, hlen, henc⟩ := (hD bs).2 i rest hi
  exact ⟨hw, used, hbs, hlen.trans h, henc⟩

theorem fmtImm8_reads {k : Byte → Instr} (hw : ∀ v, (k v).wellFormed m = true) (he : ∀ v, encode (k v) = pre ++ [v]) :
    Reads m pre (n + 1) (fmtImm8 k) :=
  reads_cons rfl fun b => fmtOp_reads (hw b) fun _ => he b

@[simp] theorem encWord_wordOfBytes (lo hi : Byte) : encWord (wordOfBytes lo hi) = [lo, hi] := by
  rw [encWord, loByte_wordOfBytes, hiByte_wordOfBytes]

/-- A decoder that takes a word, low byte first, and goes on (30_encoding.md R115). -/
theorem reads_word {D : List Byte → Dec} {e : DecodeErr} {k : Word → List Byte → Dec} (h0 : D [] = .error e)
    (h1 : ∀ b, D [b] = .error e) (hD : ∀ lo hi bs, D (lo :: hi :: bs) = k (wordOfBytes lo hi) bs)
    (hk : ∀ v, Reads m (pre ++ encWord v) n (k v)) : Reads m pre (n + 2) D := by
  refine reads_cons h0 fun lo => reads_cons (h1 lo) fun hi => reads_congr (hD lo hi) ?_
  rw [List.append_assoc, List.singleton_append, ← encWord_wordOfBytes]
  exact hk _

theorem fmtImm16_reads {k : Word → Instr} (hw : ∀ v, (k v).wellFormed m = true) (he : ∀ v, encode (k v) = pre ++ encWord v) :
    Reads m pre (n + 2) (fmtImm16 k) :=
  reads_word rfl (fun _ => rfl) (fun _ _ _ => rfl) fun v => fmtOp_reads (hw v) fun _ => he v

theorem fmtImm16Imm8_reads {k : Word → Byte → Instr} (hw : ∀ v b, (k v b).wellFormed m = true)
    (he : ∀ v b, encode (k v b) = pre ++ (encWord v ++ [b])) : Reads m pre (n + 3) (fmtImm16Imm8 k) := by
  refine reads_cons rfl fun lo => reads_cons rfl fun hi => reads_cons rfl fun b => fmtOp_reads (hw _ b) fun _ => ?_
  rw [he, encWord_wordOfBytes]
  simp

theorem fmtPtr_reads {k : Word → Word → Instr} (hw : ∀ off seg, (k off seg).wellFormed m = true)
    (he : ∀ off seg, encode (k off seg) = pre ++ (encWord off ++ encWord seg)) : Reads m pre (n + 4) (fmtPtr k) := by
  refine reads_cons rfl fun b0 => reads_cons rfl fun b1 => reads_cons rfl fun b2 => reads_cons rfl fun b3 =>
    fmtOp_reads (hw _ _) fun _ => ?_
  rw [he, encWord_wordOfBytes, encWord_wordOfBytes]
  simp

theorem withModRM_reads {k : ModRM → List Byte → Dec} (hk : ∀ mr : ModRM, Reads m (pre ++ [mr.toByte]) n (k mr)) :
    Reads m pre (n + 1) (withModRM k) :=
  reads_cons rfl fun b => by
    have h := hk (ModRM.ofByte b)
    rwa [ModRM.toByte_ofByte] at h

theorem mod_eq_of_ne_three {mod : BitVec 2} (h : mod ≠ 3#2) : mod = 0#2 ∨ mod = 1#2 ∨ mod = 2#2 := by
  revert mod
  decide

/-- The memory operand after a ModRM byte: `mod` 0 with the direct address or no displacement, `mod` 1, `mod` 2
(30_encoding.md R123). -/
theorem withMem_reads {mr : ModRM} (hmod : mr.mod ≠ 3#2) {k : MemOp → List Byte → Dec}
    (hk : ∀ mo, mo.wellFormed = true → Reads m (pre ++ encMem mr.reg mo) n (k mo)) :
    Reads m (pre ++ [mr.toByte]) (n + 2) (withMem mr k) := by
  obtain ⟨mod, reg, rm⟩ := mr
  rcases mod_eq_of_ne_three hmod with rfl | rfl | rfl
  · by_cases hrm : rm = 6#3
    · subst hrm
      exact reads_word rfl (fun _ => rfl) (fun _ _ _ => rfl) fun v => by
        rw [List.append_assoc]
        exact hk (.direct v) rfl
    · have hbp : EaBase.ofCode rm ≠ .bp := by rwa [Ne, ← EaBase.code_eq_six_iff, EaBase.code_ofCode]
      have h := hk (.disp0 (EaBase.ofCode rm)) (by simpa [MemOp.wellFormed] using hbp)
      rw [encMem, EaBase.code_ofCode] at h
      exact reads_mono (reads_congr (fun bs => if_neg hrm) h) (by omega)
  · refine reads_mono (n := n + 1) (reads_cons rfl fun d => ?_) (by omega)
    have h := hk (.disp8 (EaBase.ofCode rm) d) rfl
    rw [encMem, EaBase.code_ofCode] at h
    rw [List.append_assoc]
    exact h
  · refine reads_word (k := fun v => k (.disp16 (EaBase.ofCode rm) v)) rfl (fun _ => rfl) (fun _ _ _ => rfl) fun v => ?_
    have h := hk (.disp16 (EaBase.ofCode rm) v) rfl
    rw [encMem, EaBase.code_ofCode] at h
    rw [List.append_assoc]
    exact h

theorem withRM8_reads {mr : ModRM} {k : RM Reg8 → List Byte → Dec}
    (hk : ∀ e, e.wellFormed = true → Reads m (pre ++ encRM8 mr.reg e) n (k e)) :
    Reads m (pre ++ [mr.toByte]) (n + 2) (withRM8 mr k) := by
  by_cases hmod : mr.mod = 3#2
  · have h := hk (.reg (Reg8.ofCode mr.rm)) rfl
    rw [encRM8, Reg8.code_ofCode, ← hmod] at h
    exact reads_mono (reads_congr (fun _ => if_pos hmod) h) (by omega)
  · exact reads_congr (fun _ => if_neg hmod) (withMem_reads hmod fun mo hmo => hk (.mem mo) hmo)

theorem withRM16_reads {mr : ModRM} {k : RM Reg16 → List Byte → Dec}
    (hk : ∀ e, e.wellFormed = true → Reads m (pre ++ encRM16 mr.reg e) n (k e)) :
    Reads m (pre ++ [mr.toByte]) (n + 2) (withRM16 mr k) := by
  by_cases hmod : mr.mod = 3#2
  · have h := hk (.reg (Reg16.ofCode mr.rm)) rfl
    rw [encRM16, Reg16.code_ofCode, ← hmod] at h
    exact reads_mono (reads_congr (fun _ => if_pos hmod) h) (by omega)
  · exact reads_congr (fun _ => if_neg hmod) (withMem_reads hmod fun mo hmo => hk (.mem mo) hmo)

/-! ### The formats -/

theorem fmtE8G8_reads {k : RM Reg8 → Reg8 → Instr}
    (hw : ∀ e g, e.wellFormed = true → (k e g).wellFormed m = true)
    (he : ∀ e g, encode (k e g) = pre ++ encRM8 g.code e) : Reads m pre (n + 2 + 1) (fmtE8G8 k) :=
  withModRM_reads fun mr => withRM8_reads fun e hwf => fmtOp_reads (hw e _ hwf) fun _ => by rw [he, Reg8.code_ofCode]

theorem fmtE16G16_reads {k : RM Reg16 → Reg16 → Instr}
    (hw : ∀ e g, e.wellFormed = true → (k e g).wellFormed m = true)
    (he : ∀ e g, encode (k e g) = pre ++ encRM16 g.code e) : Reads m pre (n + 2 + 1) (fmtE16G16 k) :=
  withModRM_reads fun mr => withRM16_reads fun e hwf => fmtOp_reads (hw e _ hwf) fun _ => by rw [he, Reg16.code_ofCode]

/-- The forms with the register operand first. -/
theorem fmtE8G8_swap_reads {k : Reg8 → RM Reg8 → Instr} (hw : ∀ g e, e.wellFormed = true → (k g e).wellFormed m = true)
    (he : ∀ g e, encode (k g e) = pre ++ encRM8 g.code e) : Reads m pre (n + 2 + 1) (fmtE8G8 fun e g => k g e) :=
  fmtE8G8_reads (fun e g => hw g e) fun e g => he g e

theorem fmtE16G16_swap_reads {k : Reg16 → RM Reg16 → Instr} (hw : ∀ g e, e.wellFormed = true → (k g e).wellFormed m = true)
    (he : ∀ g e, encode (k g e) = pre ++ encRM16 g.code e) : Reads m pre (n + 2 + 1) (fmtE16G16 fun e g => k g e) :=
  fmtE16G16_reads (fun e g => hw g e) fun e g => he g e

theorem grpBad_reads {i : Instr} (hi : i ∈ illegalRows) (hw : i.wellFormed m = true) : Reads m pre n (grpBad i) :=
  fmtOp_reads hw fun h => absurd hi h

theorem fmtG16M_reads {k : Reg16 → MemOp → Instr} {bad : Instr} (hi : bad ∈ illegalRows) (hb : bad.wellFormed m = true)
    (hw : ∀ g mo, mo.wellFormed = true → (k g mo).wellFormed m = true)
    (he : ∀ g mo, encode (k g mo) = pre ++ encMem g.code mo) : Reads m pre (n + 2 + 1) (fmtG16M k bad) := by
  refine withModRM_reads fun mr => ?_
  by_cases hmod : mr.mod = 3#2
  · rw [if_pos hmod]
    exact grpBad_reads hi hb
  · rw [if_neg hmod]
    refine withMem_reads hmod fun mo hmo => fmtOp_reads (hw _ mo hmo) fun _ => ?_
    rw [he, Reg16.code_ofCode]

section

variable {mr : ModRM}

theorem grpE8_reads {k : RM Reg8 → Instr} (hw : ∀ e, e.wellFormed = true → (k e).wellFormed m = true)
    (he : ∀ e, encode (k e) = pre ++ encRM8 mr.reg e) : Reads m (pre ++ [mr.toByte]) (n + 2) (grpE8 k mr) :=
  withRM8_reads fun e hwf => fmtOp_reads (hw e hwf) fun _ => he e

theorem grpE16_reads {k : RM Reg16 → Instr} (hw : ∀ e, e.wellFormed = true → (k e).wellFormed m = true)
    (he : ∀ e, encode (k e) = pre ++ encRM16 mr.reg e) : Reads m (pre ++ [mr.toByte]) (n + 2) (grpE16 k mr) :=
  withRM16_reads fun e hwf => fmtOp_reads (hw e hwf) fun _ => he e

theorem grpE8Imm8_reads {k : RM Reg8 → Byte → Instr} (hw : ∀ e v, e.wellFormed = true → (k e v).wellFormed m = true)
    (he : ∀ e v, encode (k e v) = pre ++ (encRM8 mr.reg e ++ [v])) :
    Reads m (pre ++ [mr.toByte]) (n + 1 + 2) (grpE8Imm8 k mr) :=
  withRM8_reads fun e hwf => fmtImm8_reads (fun v => hw e v hwf) fun v => by rw [he, List.append_assoc]

theorem grpE16Imm8_reads {k : RM Reg16 → Byte → Instr} (hw : ∀ e v, e.wellFormed = true → (k e v).wellFormed m = true)
    (he : ∀ e v, encode (k e v) = pre ++ (encRM16 mr.reg e ++ [v])) :
    Reads m (pre ++ [mr.toByte]) (n + 1 + 2) (grpE16Imm8 k mr) :=
  withRM16_reads fun e hwf => fmtImm8_reads (fun v => hw e v hwf) fun v => by rw [he, List.append_assoc]

theorem grpE16Imm16_reads {k : RM Reg16 → Word → Instr} (hw : ∀ e v, e.wellFormed = true → (k e v).wellFormed m = true)
    (he : ∀ e v, encode (k e v) = pre ++ (encRM16 mr.reg e ++ encWord v)) :
    Reads m (pre ++ [mr.toByte]) (n + 2 + 2) (grpE16Imm16 k mr) :=
  withRM16_reads fun e hwf => fmtImm16_reads (fun v => hw e v hwf) fun v => by rw [he, List.append_assoc]

theorem grpM_reads {k : MemOp → Instr} {bad : Instr} (hi : bad ∈ illegalRows) (hb : bad.wellFormed m = true)
    (hw : ∀ mo, mo.wellFormed = true → (k mo).wellFormed m = true) (he : ∀ mo, encode (k mo) = pre ++ encMem mr.reg mo) :
    Reads m (pre ++ [mr.toByte]) (n + 2) (grpM k bad mr) := by
  by_cases hmod : mr.mod = 3#2
  · exact reads_congr (fun _ => if_pos hmod) (grpBad_reads hi hb)
  · exact reads_congr (fun _ => if_neg hmod) (withMem_reads hmod fun mo hmo => fmtOp_reads (hw mo hmo) fun _ => he mo)

end

/-! ### The groups (30_encoding.md R131) -/

/-- A word register, an `r/m16` operand and an immediate (46_v20_extensions.md R475). -/
theorem fmtG16E16Imm16_reads {k : Reg16 → RM Reg16 → Word → Instr}
    (hw : ∀ g e v, e.wellFormed = true → (k g e v).wellFormed m = true)
    (he : ∀ g e v, encode (k g e v) = pre ++ (encRM16 g.code e ++ encWord v)) :
    Reads m pre (n + 2 + 2 + 1) (withModRM fun mr => grpE16Imm16 (k (Reg16.ofCode mr.reg)) mr) :=
  withModRM_reads fun mr => grpE16Imm16_reads (hw _) fun e v => by rw [he, Reg16.code_ofCode]

theorem fmtG16E16Imm8_reads {k : Reg16 → RM Reg16 → Byte → Instr}
    (hw : ∀ g e v, e.wellFormed = true → (k g e v).wellFormed m = true)
    (he : ∀ g e v, encode (k g e v) = pre ++ (encRM16 g.code e ++ [v])) :
    Reads m pre (n + 1 + 2 + 1) (withModRM fun mr => grpE16Imm8 (k (Reg16.ofCode mr.reg)) mr) :=
  withModRM_reads fun mr => grpE16Imm8_reads (hw _) fun e v => by rw [he, Reg16.code_ofCode]

/-- ESC keeps the `reg` field itself (45_processor_control.md R456). -/
theorem fmtEsc_reads {x : BitVec 3} (he : ∀ g e, encode (.esc x g e) = pre ++ encRM16 g e) :
    Reads m pre (n + 2 + 1) (withModRM fun mr => withRM16 mr fun e => fmtOp (.esc x mr.reg e)) :=
  withModRM_reads fun mr => grpE16_reads (k := .esc x mr.reg) (fun _ h => h) fun e => he mr.reg e

/-! ### The groups (30_encoding.md R131); the cases `h0` to `h7` are the ModRM `reg` -/

/-- Each entry of the group `G` of the opcode `op` is read. -/
def GroupReads (m : CpuMode) (op : Byte) (G : ModRM → List Byte → Dec) : Prop :=
  ∀ mod rm reg, Reads m ([op] ++ [ModRM.toByte ⟨mod, reg, rm⟩]) 4 (G ⟨mod, reg, rm⟩)

theorem GroupReads.reads {op : Byte} {G : ModRM → List Byte → Dec} (h : GroupReads m op G) :
    Reads m [op] 5 (withModRM G) :=
  withModRM_reads fun ⟨mod, reg, rm⟩ => h mod rm reg

theorem decodeGroup80_reads : GroupReads m 0x80#8 decodeGroup80 := by
  intro mod rm
  apply code_cases
  all_goals exact grpE8Imm8_reads (fun _ _ h => h) fun _ _ => rfl

theorem decodeGroup81_reads : GroupReads m 0x81#8 decodeGroup81 := by
  intro mod rm
  apply code_cases
  all_goals exact grpE16Imm16_reads (fun _ _ h => h) fun _ _ => rfl

theorem decodeGroup82_reads : GroupReads m 0x82#8 decodeGroup82 := by
  intro mod rm
  apply code_cases
  all_goals exact grpE8Imm8_reads (fun _ _ h => h) fun _ _ => rfl

theorem decodeGroup83_reads : GroupReads m 0x83#8 decodeGroup83 := by
  intro mod rm
  apply code_cases
  all_goals exact grpE16Imm8_reads (fun _ _ h => h) fun _ _ => rfl

theorem decodeGroup8C_reads : GroupReads m 0x8C#8 decodeGroup8C := by
  intro mod rm
  apply code_cases
  case h4 | h5 | h6 | h7 => exact grpBad_reads (by decide) rfl
  all_goals exact grpE16_reads (fun _ h => h) fun _ => rfl

theorem decodeGroup8E_reads : GroupReads m 0x8E#8 decodeGroup8E := by
  intro mod rm
  apply code_cases
  case h0 | h2 | h3 => exact grpE16_reads (fun _ h => h) fun _ => rfl
  all_goals exact grpBad_reads (by decide) rfl

theorem decodeGroup8F_reads : GroupReads m 0x8F#8 decodeGroup8F := by
  intro mod rm
  apply code_cases
  case h0 => exact grpE16_reads (fun _ h => h) fun _ => rfl
  all_goals exact grpBad_reads (by decide) rfl

theorem decodeGroupC0_reads : GroupReads .v20 0xC0#8 decodeGroupC0 := by
  intro mod rm
  apply code_cases
  case h6 => exact grpBad_reads (by decide) rfl
  all_goals exact grpE8Imm8_reads (fun _ _ h => h) fun _ _ => rfl

theorem decodeGroupC1_reads : GroupReads .v20 0xC1#8 decodeGroupC1 := by
  intro mod rm
  apply code_cases
  case h6 => exact grpBad_reads (by decide) rfl
  all_goals exact grpE16Imm8_reads (fun _ _ h => h) fun _ _ => rfl

theorem decodeGroupC6_reads : GroupReads m 0xC6#8 decodeGroupC6 := by
  intro mod rm
  apply code_cases
  case h0 => exact grpE8Imm8_reads (fun _ _ h => h) fun _ _ => rfl
  all_goals exact grpBad_reads (by decide) rfl

theorem decodeGroupC7_reads : GroupReads m 0xC7#8 decodeGroupC7 := by
  intro mod rm
  apply code_cases
  case h0 => exact grpE16Imm16_reads (fun _ _ h => h) fun _ _ => rfl
  all_goals exact grpBad_reads (by decide) rfl

theorem decodeGroupD0_reads : GroupReads m 0xD0#8 decodeGroupD0 := by
  intro mod rm
  apply code_cases
  case h6 => exact grpBad_reads (by decide) rfl
  all_goals exact grpE8_reads (fun _ h => h) fun _ => rfl

theorem decodeGroupD1_reads : GroupReads m 0xD1#8 decodeGroupD1 := by
  intro mod rm
  apply code_cases
  case h6 => exact grpBad_reads (by decide) rfl
  all_goals exact grpE16_reads (fun _ h => h) fun _ => rfl

theorem decodeGroupD2_reads : GroupReads m 0xD2#8 decodeGroupD2 := by
  intro mod rm
  apply code_cases
  case h6 => exact grpBad_reads (by decide) rfl
  all_goals exact grpE8_reads (fun _ h => h) fun _ => rfl

theorem decodeGroupD3_reads : GroupReads m 0xD3#8 decodeGroupD3 := by
  intro mod rm
  apply code_cases
  case h6 => exact grpBad_reads (by decide) rfl
  all_goals exact grpE16_reads (fun _ h => h) fun _ => rfl

theorem decodeGroupF6_reads : GroupReads m 0xF6#8 decodeGroupF6 := by
  intro mod rm
  apply code_cases
  case h0 => exact grpE8Imm8_reads (fun _ _ h => h) fun _ _ => rfl
  case h1 => exact grpBad_reads (by decide) rfl
  all_goals exact grpE8_reads (fun _ h => h) fun _ => rfl

theorem decodeGroupF7_reads : GroupReads m 0xF7#8 decodeGroupF7 := by
  intro mod rm
  apply code_cases
  case h0 => exact grpE16Imm16_reads (fun _ _ h => h) fun _ _ => rfl
  case h1 => exact grpBad_reads (by decide) rfl
  all_goals exact grpE16_reads (fun _ h => h) fun _ => rfl

theorem decodeGroupFE_reads : GroupReads m 0xFE#8 decodeGroupFE := by
  intro mod rm
  apply code_cases
  case h0 | h1 => exact grpE8_reads (fun _ h => h) fun _ => rfl
  all_goals exact grpBad_reads (by decide) rfl

theorem decodeGroupFF_reads : GroupReads m 0xFF#8 decodeGroupFF := by
  intro mod rm
  apply code_cases
  case h3 | h5 => exact grpM_reads (by decide) rfl (fun _ h => h) fun _ => rfl
  case h7 => exact grpBad_reads (by decide) rfl
  all_goals exact grpE16_reads (fun _ h => h) fun _ => rfl

/-! ### The opcode map (30_encoding.md R130); the cases `x0` to `xF` are a nibble of the opcode -/

/-- What holds of each of the sixteen nibbles holds below 16. -/
theorem nibble_cases {P : Nat → Prop} (x0 : P 0x0) (x1 : P 0x1) (x2 : P 0x2) (x3 : P 0x3) (x4 : P 0x4) (x5 : P 0x5)
    (x6 : P 0x6) (x7 : P 0x7) (x8 : P 0x8) (x9 : P 0x9) (xA : P 0xA) (xB : P 0xB) (xC : P 0xC) (xD : P 0xD) (xE : P 0xE)
    (xF : P 0xF) : ∀ lo < 16, P lo := by
  intro lo h
  interval_cases lo <;> assumption

/-- Each opcode of the row `hi` of the map is read. -/
def RowReads (m : CpuMode) (hi : Nat) (D : Nat → List Byte → Dec) : Prop :=
  ∀ lo < 16, Reads m [BitVec.ofNat 8 (16 * hi + lo)] 5 (D lo)

theorem decodeRow0_reads : RowReads m 0x0 decodeRow0 := by
  apply nibble_cases
  case x0 | x8 => exact fmtE8G8_reads (fun _ _ h => h) fun _ _ => rfl
  case x1 | x9 => exact fmtE16G16_reads (fun _ _ h => h) fun _ _ => rfl
  case x2 | xA => exact fmtE8G8_swap_reads (fun _ _ h => h) fun _ _ => rfl
  case x3 | xB => exact fmtE16G16_swap_reads (fun _ _ h => h) fun _ _ => rfl
  case x4 | xC => exact fmtImm8_reads (fun _ => rfl) fun _ => rfl
  case x5 | xD => exact fmtImm16_reads (fun _ => rfl) fun _ => rfl
  all_goals exact fmtOp_reads rfl fun _ => rfl

theorem decodeRow1_reads : RowReads m 0x1 decodeRow1 := by
  apply nibble_cases
  case x0 | x8 => exact fmtE8G8_reads (fun _ _ h => h) fun _ _ => rfl
  case x1 | x9 => exact fmtE16G16_reads (fun _ _ h => h) fun _ _ => rfl
  case x2 | xA => exact fmtE8G8_swap_reads (fun _ _ h => h) fun _ _ => rfl
  case x3 | xB => exact fmtE16G16_swap_reads (fun _ _ h => h) fun _ _ => rfl
  case x4 | xC => exact fmtImm8_reads (fun _ => rfl) fun _ => rfl
  case x5 | xD => exact fmtImm16_reads (fun _ => rfl) fun _ => rfl
  all_goals exact fmtOp_reads rfl fun _ => rfl

theorem decodeRow2_reads : RowReads m 0x2 decodeRow2 := by
  apply nibble_cases
  case x0 | x8 => exact fmtE8G8_reads (fun _ _ h => h) fun _ _ => rfl
  case x1 | x9 => exact fmtE16G16_reads (fun _ _ h => h) fun _ _ => rfl
  case x2 | xA => exact fmtE8G8_swap_reads (fun _ _ h => h) fun _ _ => rfl
  case x3 | xB => exact fmtE16G16_swap_reads (fun _ _ h => h) fun _ _ => rfl
  case x4 | xC => exact fmtImm8_reads (fun _ => rfl) fun _ => rfl
  case x5 | xD => exact fmtImm16_reads (fun _ => rfl) fun _ => rfl
  all_goals exact fmtOp_reads rfl fun _ => rfl

theorem decodeRow3_reads : RowReads m 0x3 decodeRow3 := by
  apply nibble_cases
  case x0 | x8 => exact fmtE8G8_reads (fun _ _ h => h) fun _ _ => rfl
  case x1 | x9 => exact fmtE16G16_reads (fun _ _ h => h) fun _ _ => rfl
  case x2 | xA => exact fmtE8G8_swap_reads (fun _ _ h => h) fun _ _ => rfl
  case x3 | xB => exact fmtE16G16_swap_reads (fun _ _ h => h) fun _ _ => rfl
  case x4 | xC => exact fmtImm8_reads (fun _ => rfl) fun _ => rfl
  case x5 | xD => exact fmtImm16_reads (fun _ => rfl) fun _ => rfl
  all_goals exact fmtOp_reads rfl fun _ => rfl

theorem decodeRow4_reads : RowReads m 0x4 decodeRow4 := by
  apply nibble_cases
  all_goals exact fmtOp_reads rfl fun _ => rfl

theorem decodeRow5_reads : RowReads m 0x5 decodeRow5 := by
  apply nibble_cases
  all_goals exact fmtOp_reads rfl fun _ => rfl

theorem decodeRow6_reads_v20 : RowReads .v20 0x6 (decodeRow6 .v20) := by
  apply nibble_cases
  case x2 => exact fmtG16M_reads (by decide) rfl (fun _ _ h => h) fun _ _ => rfl
  case x8 => exact fmtImm16_reads (fun _ => rfl) fun _ => rfl
  case x9 => exact fmtG16E16Imm16_reads (fun _ _ _ h => h) fun _ _ _ => rfl
  case xA => exact fmtImm8_reads (fun _ => rfl) fun _ => rfl
  case xB => exact fmtG16E16Imm8_reads (fun _ _ _ h => h) fun _ _ _ => rfl
  all_goals exact fmtOp_reads rfl fun _ => rfl

theorem decodeRow6_reads_i8088 : RowReads .i8088 0x6 (decodeRow6 .i8088) := by
  apply nibble_cases
  all_goals exact fmtOp_reads rfl fun _ => rfl

theorem decodeRow7_reads : RowReads m 0x7 decodeRow7 := by
  apply nibble_cases
  all_goals exact fmtImm8_reads (fun _ => rfl) fun _ => rfl

theorem decodeRow8_reads : RowReads m 0x8 decodeRow8 := by
  apply nibble_cases
  case x0 => exact decodeGroup80_reads.reads
  case x1 => exact decodeGroup81_reads.reads
  case x2 => exact decodeGroup82_reads.reads
  case x3 => exact decodeGroup83_reads.reads
  case x5 | x7 | x9 => exact fmtE16G16_reads (fun _ _ h => h) fun _ _ => rfl
  case xA => exact fmtE8G8_swap_reads (fun _ _ h => h) fun _ _ => rfl
  case xB => exact fmtE16G16_swap_reads (fun _ _ h => h) fun _ _ => rfl
  case xC => exact decodeGroup8C_reads.reads
  case xD => exact fmtG16M_reads (by decide) rfl (fun _ _ h => h) fun _ _ => rfl
  case xE => exact decodeGroup8E_reads.reads
  case xF => exact decodeGroup8F_reads.reads
  all_goals exact fmtE8G8_reads (fun _ _ h => h) fun _ _ => rfl

theorem decodeRow9_reads : RowReads m 0x9 decodeRow9 := by
  apply nibble_cases
  case xA => exact fmtPtr_reads (fun _ _ => rfl) fun _ _ => rfl
  all_goals exact fmtOp_reads rfl fun _ => rfl

theorem decodeRowA_reads : RowReads m 0xA decodeRowA := by
  apply nibble_cases
  case x0 | x1 | x2 | x3 | x9 => exact fmtImm16_reads (fun _ => rfl) fun _ => rfl
  case x8 => exact fmtImm8_reads (fun _ => rfl) fun _ => rfl
  all_goals exact fmtOp_reads rfl fun _ => rfl

theorem decodeRowB_reads : RowReads m 0xB decodeRowB := by
  apply nibble_cases
  case x8 | x9 | xA | xB | xC | xD | xE | xF => exact fmtImm16_reads (fun _ => rfl) fun _ => rfl
  all_goals exact fmtImm8_reads (fun _ => rfl) fun _ => rfl

theorem decodeRowC_reads_v20 : RowReads .v20 0xC (decodeRowC .v20) := by
  apply nibble_cases
  case x0 => exact decodeGroupC0_reads.reads
  case x1 => exact decodeGroupC1_reads.reads
  case x2 | xA => exact fmtImm16_reads (fun _ => rfl) fun _ => rfl
  case x4 | x5 => exact fmtG16M_reads (by decide) rfl (fun _ _ h => h) fun _ _ => rfl
  case x6 => exact decodeGroupC6_reads.reads
  case x7 => exact decodeGroupC7_reads.reads
  case x8 => exact fmtImm16Imm8_reads (fun _ _ => rfl) fun _ _ => rfl
  case xD => exact fmtImm8_reads (fun _ => rfl) fun _ => rfl
  all_goals exact fmtOp_reads rfl fun _ => rfl

theorem decodeRowC_reads_i8088 : RowReads .i8088 0xC (decodeRowC .i8088) := by
  apply nibble_cases
  case x2 | xA => exact fmtImm16_reads (fun _ => rfl) fun _ => rfl
  case x4 | x5 => exact fmtG16M_reads (by decide) rfl (fun _ _ h => h) fun _ _ => rfl
  case x6 => exact decodeGroupC6_reads.reads
  case x7 => exact decodeGroupC7_reads.reads
  case xD => exact fmtImm8_reads (fun _ => rfl) fun _ => rfl
  all_goals exact fmtOp_reads rfl fun _ => rfl

theorem decodeRowD_reads : RowReads m 0xD decodeRowD := by
  apply nibble_cases
  case x0 => exact decodeGroupD0_reads.reads
  case x1 => exact decodeGroupD1_reads.reads
  case x2 => exact decodeGroupD2_reads.reads
  case x3 => exact decodeGroupD3_reads.reads
  case x4 | x5 => exact fmtImm8_reads (fun _ => rfl) fun _ => rfl
  case x6 | x7 => exact fmtOp_reads rfl fun _ => rfl
  all_goals exact fmtEsc_reads fun _ _ => rfl

theorem decodeRowE_reads : RowReads m 0xE decodeRowE := by
  apply nibble_cases
  case x8 | x9 => exact fmtImm16_reads (fun _ => rfl) fun _ => rfl
  case xA => exact fmtPtr_reads (fun _ _ => rfl) fun _ _ => rfl
  case xC | xD | xE | xF => exact fmtOp_reads rfl fun _ => rfl
  all_goals exact fmtImm8_reads (fun _ => rfl) fun _ => rfl

theorem decodeRowF_reads : RowReads m 0xF decodeRowF := by
  apply nibble_cases
  case x6 => exact decodeGroupF6_reads.reads
  case x7 => exact decodeGroupF7_reads.reads
  case xE => exact decodeGroupFE_reads.reads
  case xF => exact decodeGroupFF_reads.reads
  all_goals exact fmtOp_reads rfl fun _ => rfl

/-- The opcode's high nibble selects the row, the low nibble the opcode in it (30_encoding.md R112, R130). -/
theorem decode_cons_reads (m : CpuMode) (op : Byte) : Reads m [op] 5 fun bs => decode m (op :: bs) := by
  have hop : op = BitVec.ofNat 8 (16 * (op.toNat / 16) + op.toNat % 16) := by
    rw [Nat.div_add_mod, BitVec.ofNat_toNat, BitVec.setWidth_eq]
  have hhi : op.toNat / 16 < 16 := Nat.div_lt_of_lt_mul op.isLt
  have hlo : op.toNat % 16 < 16 := Nat.mod_lt _ (by decide)
  unfold decode
  rw [show [op] = [BitVec.ofNat 8 (16 * (op.toNat / 16) + op.toNat % 16)] from congrArg (fun b => [b]) hop]
  dsimp only
  generalize op.toNat % 16 = lo at hlo
  generalize op.toNat / 16 = hi at hhi
  revert hi
  apply nibble_cases
  case x0 => exact decodeRow0_reads lo hlo
  case x1 => exact decodeRow1_reads lo hlo
  case x2 => exact decodeRow2_reads lo hlo
  case x3 => exact decodeRow3_reads lo hlo
  case x4 => exact decodeRow4_reads lo hlo
  case x5 => exact decodeRow5_reads lo hlo
  case x6 =>
    cases m with
    | i8088 => exact decodeRow6_reads_i8088 lo hlo
    | v20 => exact decodeRow6_reads_v20 lo hlo
  case x7 => exact decodeRow7_reads lo hlo
  case x8 => exact decodeRow8_reads lo hlo
  case x9 => exact decodeRow9_reads lo hlo
  case xA => exact decodeRowA_reads lo hlo
  case xB => exact decodeRowB_reads lo hlo
  case xC =>
    cases m with
    | i8088 => exact decodeRowC_reads_i8088 lo hlo
    | v20 => exact decodeRowC_reads_v20 lo hlo
  case xD => exact decodeRowD_reads lo hlo
  case xE => exact decodeRowE_reads lo hlo
  case xF => exact decodeRowF_reads lo hlo

theorem decode_reads (m : CpuMode) : Reads m [] 6 (decode m) := reads_cons rfl (decode_cons_reads m)

end reads

/-- Settles O5: the decoder needs at most six bytes, and uses one at least. -/
theorem sixBytesAlwaysDecode : Obligations.SixBytesAlwaysDecode := by
  intro m bs hbs
  match bs with
  | op :: bs =>
    obtain ⟨htotal, hsound⟩ := decode_cons_reads m op bs
    obtain ⟨⟨i, rest⟩, h⟩ := htotal (Nat.le_of_succ_le_succ hbs)
    obtain ⟨hw, used, rfl, hlen, -⟩ := hsound i rest h
    exact ⟨i, op :: used, rest, h, rfl, Nat.succ_le_succ (Nat.zero_le _), Nat.succ_le_succ hlen, hw⟩

/-- Settles O7: what is read is what is encoded, the illegal rows excepted. -/
theorem encodeOfDecode : Obligations.EncodeOfDecode := by
  intro m bs i rest h hi
  obtain ⟨-, used, hbs, -, henc⟩ := (decode_reads m bs).2 i rest h
  rw [hbs, henc hi, List.nil_append]

section prefixLoop

variable {s d : State}

/-! ### An instruction fetched from the code at CS:IP (30_encoding.md R110) -/

theorem encode_length_le {m : CpuMode} {i : Instr} (h : i.wellFormed m = true) : (encode i).length ≤ 6 := by
  obtain ⟨-, used, hbs, hlen, -⟩ := (decode_reads m (encode i ++ [])).2 i [] (decode_encode h)
  rw [List.append_cancel_right hbs]
  exact hlen

theorem codeAt_append {bs bs' : List Byte} {ip : Word} :
    CodeAt s ip (bs ++ bs') ↔ CodeAt s ip bs ∧ CodeAt s (ip + BitVec.ofNat 16 bs.length) bs' := by
  induction bs generalizing ip with
  | nil => simp [CodeAt]
  | cons b bs ih =>
    have hip : ip + BitVec.ofNat 16 (b :: bs).length = ip + 1#16 + BitVec.ofNat 16 bs.length := by
      rw [List.length_cons, Nat.add_comm, BitVec.ofNat_add, BitVec.add_assoc]
    rw [hip]
    show _ ∧ CodeAt s (ip + 1#16) (bs ++ bs') ↔ (_ ∧ CodeAt s (ip + 1#16) bs) ∧ _
    rw [ih, and_assoc]

theorem codeAt_congr (hg : d.seg = s.seg) (hp : ∀ a, peek d a = peek s a) {ip : Word} {bs : List Byte}
    (h : CodeAt s ip bs) : CodeAt d ip bs := by
  induction bs generalizing ip with
  | nil => trivial
  | cons b bs ih => exact ⟨by rw [hp, hg]; exact h.1, ih h.2⟩

/-- Neither IP nor the decode state has a part in what memory holds. -/
theorem codeAt_with {ip : Word} {bs : List Byte} (h : CodeAt s ip bs) (v : Word) (e : DecodeState) :
    CodeAt { s with ip := v, dec := e } ip bs :=
  codeAt_congr (s := s) (d := { s with ip := v, dec := e }) rfl (fun _ => rfl) h

theorem fetch8_of_peek {b : Byte} (h : peek s (lin s.seg.cs s.ip) = some b) :
    fetch8 s = (b, { s with ip := s.ip + 1#16 }) := by
  rw [fetch8, busRead8_of_peek h]

theorem fetchBytes_of_codeAt {bs : List Byte} (h : CodeAt s s.ip bs) :
    fetchBytes bs.length s = (bs, { s with ip := s.ip + BitVec.ofNat 16 bs.length }) := by
  induction bs generalizing s with
  | nil => simp [fetchBytes]
  | cons b bs ih =>
    obtain ⟨hb, hbs⟩ := h
    have hf := ih (s := { s with ip := s.ip + 1#16 }) (codeAt_with hbs _ s.dec)
    simp only [List.length_cons, fetchBytes, fetch8_of_peek hb, hf]
    rw [Nat.add_comm, BitVec.ofNat_add, BitVec.add_assoc]

theorem fetchBytes_add (j k : Nat) (s : State) :
    (fetchBytes (j + k) s).1 = (fetchBytes j s).1 ++ (fetchBytes k (fetchBytes j s).2).1 := by
  induction j generalizing s with
  | zero => simp [fetchBytes]
  | succ j ih => rw [Nat.succ_add]; exact congrArg (_ :: ·) (ih _)

theorem length_fetchBytes (k : Nat) (s : State) : (fetchBytes k s).1.length = k := by
  induction k generalizing s with
  | zero => rfl
  | succ k ih => exact congrArg (· + 1) (ih _)

/-- The encoding of an instruction at CS:IP is what is fetched, whatever stands after it. -/
theorem fetchInstr_of_codeAt {i : Instr} (hw : i.wellFormed s.cpuMode = true) (hc : CodeAt s s.ip (encode i)) :
    fetchInstr s = .ok (i, { s with ip := s.ip + BitVec.ofNat 16 (encode i).length }) := by
  obtain ⟨k, hk⟩ : ∃ k, maxLength = (encode i).length + k := Nat.exists_eq_add_of_le (encode_length_le hw)
  have hfetch := fetchBytes_of_codeAt hc
  have hbytes := fetchBytes_add (encode i).length k s
  rw [hfetch, ← hk] at hbytes
  rw [fetchInstr_of_decode (by rw [hbytes, decode_encode hw]), length_fetchBytes, hk, Nat.add_sub_cancel, hfetch]

/-! ### The prefix loop (30_encoding.md R111) -/

open Sys2Proof.Rows

/-- A row of R111 changes the decode state alone. -/
theorem exec_prefix {p : Instr} (hp : p.isPrefix = true) (s : State) :
    exec p s = .next { s with dec := prefixEffect s.dec p } := by
  cases p <;> cases hp <;> rfl

theorem wellFormed_of_isPrefix {p : Instr} (hp : p.isPrefix = true) (m : CpuMode) : p.wellFormed m = true := by
  cases p <;> cases hp <;> rfl

/-- A prefix is one byte (30_encoding.md R111). -/
theorem length_encode_prefixes {ps : List Instr} (hps : ∀ p ∈ ps, p.isPrefix = true) :
    (ps.flatMap encode).length = ps.length := by
  induction ps with
  | nil => rfl
  | cons p ps ih =>
    obtain ⟨hp, hps⟩ := List.forall_mem_cons.1 hps
    have hone : (encode p).length = 1 := by cases p <;> cases hp <;> rfl
    rw [List.flatMap_cons, List.length_append, ih hps, hone, List.length_cons, Nat.add_comm]

/-- The prefixes at CS:IP are run, each for one unit of fuel. -/
theorem runDecoded_prefixes {ps : List Instr} (hps : ∀ p ∈ ps, p.isPrefix = true) (fuel : Nat)
    (hc : CodeAt s s.ip (ps.flatMap encode)) :
    runDecoded (ps.length + fuel) s = runDecoded fuel { s with
      ip := s.ip + BitVec.ofNat 16 (ps.flatMap encode).length, dec := ps.foldl prefixEffect s.dec } := by
  induction ps generalizing s with
  | nil => simp
  | cons p ps ih =>
    obtain ⟨hp, hps⟩ := List.forall_mem_cons.1 hps
    rw [List.flatMap_cons] at hc
    obtain ⟨hcp, hcps⟩ := codeAt_append.1 hc
    have hf := fetchInstr_of_codeAt (wellFormed_of_isPrefix hp _) hcp
    rw [List.length_cons, Nat.add_right_comm, runDecoded_succ _ hf, exec_prefix hp, if_pos hp]
    refine (ih hps (codeAt_with hcps _ _)).trans ?_
    rw [List.flatMap_cons, List.length_append, BitVec.ofNat_add, ← BitVec.add_assoc]
    rfl

/-- What the state a call of `step` begins to decode in has of the state before. -/
theorem decodesFrom_frame (h : DecodesFrom s d) :
    d.ip = s.ip ∧ d.seg = s.seg ∧ d.cpuMode = s.cpuMode ∧ ∀ a, peek d a = peek s a := by
  rcases h with ⟨-, rfl⟩ | ⟨-, rfl⟩ <;> exact ⟨rfl, rfl, rfl, fun _ => rfl⟩

theorem codeAt_of_decodesFrom (h : DecodesFrom s d) {bs : List Byte} (hc : CodeAt s s.ip bs) :
    CodeAt d d.ip bs := by
  obtain ⟨hip, hseg, -, hpeek⟩ := decodesFrom_frame h
  rw [hip]
  exact codeAt_congr hseg hpeek hc

end prefixLoop

/-- Settles O9: the loop runs the prefixes, and the fuel that is left runs the instruction, or ends the call. -/
theorem stepRunsPrefixedEncoding : Obligations.StepRunsPrefixedEncoding := by
  refine ⟨fun s d ps i hd hps hlen hi hw hc => ?_, fun s d ps hd hps hlen hc => ?_⟩
  · obtain ⟨hip, -, hmode, -⟩ := decodesFrom_frame hd
    obtain ⟨hcps, hci⟩ := codeAt_append.1 (codeAt_of_decodesFrom hd hc)
    obtain ⟨fuel, hfuel⟩ : ∃ fuel, prefixLimit = ps.length + (fuel + 1) := Nat.exists_eq_add_of_lt hlen
    have hf := fetchInstr_of_codeAt (s := { d with
      ip := d.ip + BitVec.ofNat 16 (ps.flatMap encode).length, dec := ps.foldl Rows.prefixEffect d.dec }) (hmode ▸ hw)
      (codeAt_with hci _ _)
    rw [step_of_decodesFrom hd, hfuel, runDecoded_prefixes hps _ hcps, runDecoded_succ fuel hf, if_neg (by simp [hi]),
      List.length_append, BitVec.ofNat_add, ← BitVec.add_assoc, hip]
  · have hrun := runDecoded_prefixes hps 0 (codeAt_of_decodesFrom hd hc)
    have hwrap : d.ip + BitVec.ofNat 16 65536 = d.ip := BitVec.add_zero d.ip
    rw [length_encode_prefixes hps, hlen, hwrap] at hrun
    exact (step_of_decodesFrom hd).trans hrun

/-- Settles O8: the decode phase takes one turn. -/
theorem stepRunsDecodedInstruction : Obligations.StepRunsDecodedInstruction := by
  intro s d i rest hd hdec hi
  obtain ⟨-, -, hmode, -⟩ := decodesFrom_frame hd
  have hf := fetchInstr_of_decode (s := d) (hmode ▸ hdec)
  rw [step_of_decodesFrom hd]
  refine (runDecoded_succ 65535 hf).trans ?_
  rw [hi]
  rfl

/-- Settles O59: an illegal row rolls IP back and enters vector 6. -/
theorem illegalEncodingTakesVectorSix : Obligations.IllegalEncodingTakesVectorSix := by
  intro s i hmode hw hn hi
  have hexec : exec i s = doInterrupt 6#8 (rollBack s) := by
    rw [exec_of_mem_illegalRows hi, illegalEncoding, hmode]
    rfl
  refine ⟨vectorThrough 6#8 (rollBack s), hexec.trans (doInterrupt_of_noHandler hn), ?_⟩
  exact (untouched_rollBack s).entered (vectorThrough_entered (s := rollBack s) hw 6#8)

section v20Rows

open Sys2Proof.Rows

/-- In `I8088` mode a row of `V20` mode has no meaning, whatever it would do (46_v20_extensions.md R470). -/
theorem v20Only_of_i8088 {s : State} (k : State → Res) (hm : s.cpuMode = .i8088) : v20Only s k = debugBreakStop s := by
  unfold v20Only
  rw [hm]

theorem exec_v20Row_of_i8088 {s : State} {i : Instr} (hi : isV20Row i = true) (hm : s.cpuMode = .i8088) :
    exec i s = debugBreakStop s := by
  cases i <;> cases hi
  case boundGvMa | insb | insw | outsb | outsw => exact v20Only_of_i8088 _ hm
  all_goals exact v20Only_of_i8088 (fun _ => .next _) hm

end v20Rows

/-- Settles O60: each of the rows in question is the `DebugBreak` stop. -/
theorem illegalEncodingStopsWithDebugBreak : Obligations.IllegalEncodingStopsWithDebugBreak := by
  intro s i h
  show exec i s = debugBreakStop s
  rcases h with hi | ⟨hm, hi | hi⟩
  · exact exec_of_mem_baselineIllegalRows hi
  · rw [exec_of_mem_illegalRows hi, illegalEncoding, hm]
  · exact exec_v20Row_of_i8088 hi hm

/-- Settles O4: the decoder computes each of the words. -/
theorem opcodeMapWordsDecode : Obligations.OpcodeMapWordsDecode := by
  and_intros <;> rfl

/-- Settles O55: a prefix is `overrideWith`, `repeatWith` or nothing. -/
theorem prefixRows : Obligations.PrefixRows := by
  intro s
  have hseg (r d : Sreg) : segFor d (overrideWith r s) = sreg r s := segFor_of_override rfl d
  refine ⟨?segment, ?rep, rfl⟩
  case segment =>
    simp only [List.forall_mem_cons, List.not_mem_nil, false_imp_iff, implies_true, and_true]
    exact ⟨⟨overrideWith .es s, rfl, rfl, rfl, rfl, hseg .es⟩, ⟨overrideWith .cs s, rfl, rfl, rfl, rfl, hseg .cs⟩,
      ⟨overrideWith .ss s, rfl, rfl, rfl, rfl, hseg .ss⟩, ⟨overrideWith .ds s, rfl, rfl, rfl, rfl, hseg .ds⟩⟩
  case rep =>
    simp only [List.forall_mem_cons, List.not_mem_nil, false_imp_iff, implies_true, and_true]
    exact ⟨⟨repeatWith .repne s, rfl, rfl, rfl, rfl, fun _ => rfl⟩, ⟨repeatWith .repe s, rfl, rfl, rfl, rfl, fun _ => rfl⟩⟩

end Sys2Proof.Machine

namespace Sys2Proof.Machine

section dataTransfer

variable {s t : State}

/-! ### Registers written with nothing else touched (40_data_transfer.md R200) -/

/-- The value has been found by an access that changes the device record only. -/
theorem setReg8_movedFrom (hy : SameSystem s t) (hi : t.ip = s.ip) (hf : t.flags = s.flags) (hd : SameData s t) (r : Reg8)
    (v : Byte) : MovedByte (.reg r) v s (setReg8 r v t) := by
  obtain ⟨hg, hs, hm⟩ := hd
  exact ⟨hy.trans (by simp [sameSystem_iff]), hi, hf,
    (setReg8_put r v t).congr hg.symm hs.symm hm.symm (fun a => (hy.kindAt a).symm) rfl rfl rfl⟩

theorem setReg8_moved (r : Reg8) (v : Byte) (s : State) :
    MovedByte (.reg r) v s (setReg8 r v s) ∧ Quiet s (setReg8 r v s) :=
  ⟨setReg8_movedFrom (.refl s) rfl rfl ⟨rfl, rfl, rfl⟩ r v, rfl, rfl⟩

theorem setReg16_moved (r : Reg16) (v : Word) (s : State) :
    MovedWord (.reg r) v s (setReg16 r v s) ∧ Quiet s (setReg16 r v s) :=
  ⟨⟨by simp [sameSystem_iff], rfl, rfl, setReg16_put r v s⟩, rfl, rfl⟩

/-! ### Exchanges (40_data_transfer.md R211, R212) -/

theorem reg16_setReg8_of_ne {q : Reg16} {r : Reg8} (h : q ≠ wholeOf r) (v : Byte) (s : State) :
    reg16 q (setReg8 r v s) = reg16 q s := by
  rw [reg16_setReg8, if_neg h]

theorem exchange8_regs (r g : Reg8) (s : State) :
    let t := exchange8 (.reg r) (.reg g) s
    SameSystem s t ∧ Quiet s t ∧ t.ip = s.ip ∧ t.flags = s.flags ∧ t.seg = s.seg ∧ t.mem = s.mem ∧
      SameRegsBut [wholeOf r, wholeOf g] s t ∧
      ∀ q, reg8 q t = if q = g then reg8 r s else if q = r then reg8 g s else reg8 q s := by
  have ht : exchange8 (.reg r) (.reg g) s = setReg8 g (reg8 r s) (setReg8 r (reg8 g s) s) := rfl
  rw [ht]
  refine ⟨rfl, ⟨rfl, rfl⟩, rfl, rfl, rfl, rfl, fun q hq => ?_, fun q => by simp only [reg8_setReg8]⟩
  have hne : q ≠ wholeOf r ∧ q ≠ wholeOf g := by simpa using hq
  rw [reg16_setReg8_of_ne hne.2, reg16_setReg8_of_ne hne.1]

theorem exchange16_regs (r g : Reg16) (s : State) :
    let t := exchange16 (.reg r) (.reg g) s
    SameSystem s t ∧ Quiet s t ∧ t.ip = s.ip ∧ t.flags = s.flags ∧ t.seg = s.seg ∧ t.mem = s.mem ∧
      ∀ q, reg16 q t = if q = g then reg16 r s else if q = r then reg16 g s else reg16 q s := by
  have ht : exchange16 (.reg r) (.reg g) s = setReg16 g (reg16 r s) (setReg16 r (reg16 g s) s) := rfl
  rw [ht]
  exact ⟨rfl, ⟨rfl, rfl⟩, rfl, rfl, rfl, rfl, fun q => by simp only [reg16_setReg16]⟩

/-- The operand is read before it is stored to, so the register gets what memory held. -/
theorem exchange8_mem (hw : s.mem.wf = true) (seg off : Word) (g : Reg8) :
    let t := exchange8 (.mem seg off) (.reg g) s
    SameSystem s t ∧ t.ip = s.ip ∧ t.flags = s.flags ∧ t.seg = s.seg ∧ Stored [(lin seg off, reg8 g s)] s t ∧
      SameRegsBut [wholeOf g] s t ∧ ∀ q, reg8 q t = if q = g then (memRead8 seg off s).1 else reg8 q s := by
  have ht : exchange8 (.mem seg off) (.reg g) s =
      setReg8 g (memRead8 seg off s).1 (memWrite8 seg off (reg8 g s) (memRead8 seg off s).2) := by
    simp [exchange8, readLoc8, writeLoc8]
  have hst := memWrite8_stored (s := (memRead8 seg off s).2) (by simpa using hw) seg off (reg8 g s)
  rw [ht]
  refine ⟨by simp [sameSystem_iff], by simp, by simp, by simp, hst.congr (memRead8_mem ..).symm rfl (by simp),
    fun q hq => ?_, fun q => by simp only [reg8_setReg8, memWrite8_reg8, memRead8_reg8]⟩
  have hne : q ≠ wholeOf g := by simpa using hq
  rw [reg16_setReg8_of_ne hne, memWrite8_reg16, memRead8_reg16]

theorem exchange16_mem (hw : s.mem.wf = true) (seg off : Word) (g : Reg16) :
    let t := exchange16 (.mem seg off) (.reg g) s
    SameSystem s t ∧ t.ip = s.ip ∧ t.flags = s.flags ∧ t.seg = s.seg ∧
      Stored (wordCells s.wordWrap seg off (reg16 g s)) s t ∧
      ∀ q, reg16 q t = if q = g then (memRead16 seg off s).1 else reg16 q s := by
  have ht : exchange16 (.mem seg off) (.reg g) s =
      setReg16 g (memRead16 seg off s).1 (memWrite16 seg off (reg16 g s) (memRead16 seg off s).2) := by
    simp [exchange16, readLoc16, writeLoc16]
  have hst := memWrite16_stored (s := (memRead16 seg off s).2) (by simpa using hw) seg off (reg16 g s)
  rw [memRead16_wordWrap] at hst
  rw [ht]
  exact ⟨by simp [sameSystem_iff], by simp, by simp, by simp, hst.congr (memRead16_mem ..).symm rfl (by simp),
    fun q => by simp only [reg16_setReg16, memWrite16_reg16, memRead16_reg16]⟩

/-! ### Far pointers (40_data_transfer.md R221, R222; 30_encoding.md R126) -/

/-- LDS and LES, by the segment register they load. -/
theorem loadFar_frame (g : Reg16) (r : Sreg) (m : MemOp) (s : State) :
    let t := setSreg r (readFar m s).1.2 (setReg16 g (readFar m s).1.1 (readFar m s).2)
    SameSystem s t ∧ t.ip = s.ip ∧ t.flags = s.flags ∧ t.mem = s.mem ∧
      (∀ q, reg16 q t = if q = g then (memRead16 (eaSegment m s) (eaOffset m s) s).1 else reg16 q s) ∧
      (∀ q, sreg q t = if q = r then (memRead16 (eaSegment m s) (eaOffset m s + 2#16)
        (memRead16 (eaSegment m s) (eaOffset m s) s).2).1 else sreg q s) := by
  refine ⟨by simp [sameSystem_iff], by simp, by simp, by simp, fun q => ?_, fun q => ?_⟩
  · rw [setSreg_reg16, reg16_setReg16, readFar_reg16]
    rfl
  · rw [sreg_setSreg, setReg16_sreg, readFar_sreg]
    rfl

/-! ### Pushes (40_data_transfer.md R214, R216) -/

/-- The decremented SP is seen by an operand that names SP and by no other. -/
theorem readLoc16_decSp (e : RM Reg16) (s : State) :
    (readLoc16 (loc16 e s) (decSp s)).1 = if e = .reg .sp then s.gpr.sp - 2#16 else value16 e s := by
  cases e with
  | reg r => simp only [loc16, readLoc16_ofReg, value16_reg, decSp, reg16_setReg16, RM.reg.injEq]
  | mem m =>
    rw [if_neg (by simp)]
    exact memRead16_congr _ _ (decSp_mem s) (decSp_draws s) (decSp_memTable s) (decSp_peripherals s) (decSp_wordWrap s)

theorem pushRm_pushed (hw : s.mem.wf = true) (e : RM Reg16) :
    Pushed (if e = .reg .sp then s.gpr.sp - 2#16 else value16 e s) s (pushLoc (loc16 e s) s) := by
  rw [← readLoc16_decSp]
  exact pushLoc_pushed hw _

/-! ### Pops (40_data_transfer.md R217 to R219, R229) -/

theorem pop16_reg16 (q : Reg16) (s : State) :
    reg16 q (pop16 s).2 = if q = .sp then s.gpr.sp + 2#16 else reg16 q s := reg16_of_set (pop16_gpr s) rfl q

theorem pop16_sp (h : t.gpr = (pop16 s).2.gpr) : SameRegsBut [.sp] s t ∧ t.gpr.sp = s.gpr.sp + 2#16 :=
  ⟨sameRegsBut_of_set (h.trans (pop16_gpr s)) _ (by simp), by rw [h, pop16_gpr]; rfl⟩

theorem popLoc_reg (r : Reg16) (s : State) :
    let t := popLoc (.reg r) s
    SameSystem s t ∧ t.ip = s.ip ∧ t.flags = s.flags ∧ t.seg = s.seg ∧ t.mem = s.mem ∧
      ∀ q, reg16 q t = if q = r then (pop16 s).1 else if q = .sp then s.gpr.sp + 2#16 else reg16 q s := by
  obtain ⟨hy, hi, hf, hs, hm, -, -⟩ := pop16_frame s
  refine ⟨hy.trans (by simp [sameSystem_iff, popLoc]), hi, hf, hs, hm, fun q => ?_⟩
  rw [← pop16_reg16 q s]
  exact reg16_setReg16 ..

theorem popLoc_sreg (r : Sreg) (s : State) :
    let t := popLoc (.sreg r) s
    SameSystem s t ∧ t.ip = s.ip ∧ t.flags = s.flags ∧ t.mem = s.mem ∧ SameRegsBut [.sp] s t ∧
      t.gpr.sp = s.gpr.sp + 2#16 ∧ ∀ q, sreg q t = if q = r then (pop16 s).1 else sreg q s := by
  obtain ⟨hy, hi, hf, -, hm, -, -⟩ := pop16_frame s
  obtain ⟨hregs, hsp⟩ := pop16_sp (s := s) (t := popLoc (.sreg r) s) rfl
  refine ⟨hy.trans (by simp [sameSystem_iff, popLoc]), hi, hf, hm, hregs, hsp, fun q => ?_⟩
  rw [← pop16_sreg s q]
  exact sreg_setSreg ..

/-- POP to memory stores where the operand was resolved, whatever the pop has done to SP. -/
theorem popLoc_mem (hw : s.mem.wf = true) (seg off : Word) :
    let t := popLoc (.mem seg off) s
    SameSystem s t ∧ t.ip = s.ip ∧ t.flags = s.flags ∧ t.seg = s.seg ∧
      Stored (wordCells s.wordWrap seg off (pop16 s).1) s t ∧ SameRegsBut [.sp] s t ∧ t.gpr.sp = s.gpr.sp + 2#16 := by
  obtain ⟨hregs, hsp⟩ := pop16_sp (s := s) (t := popLoc (.mem seg off) s) (by simp [popLoc, writeLoc16])
  have hst := memWrite16_stored (s := (pop16 s).2) (by simpa using hw) seg off (pop16 s).1
  rw [pop16_wordWrap] at hst
  exact ⟨by simp [sameSystem_iff, popLoc], by simp [popLoc], by simp [popLoc], by simp [popLoc, writeLoc16],
    hst.congr (pop16_mem s).symm rfl (by simp), hregs, hsp⟩

/-! ### SAHF (40_data_transfer.md R226) -/

/-- The five bits of AH go to the places of the same number. -/
theorem getLsbD_sahf (ah : Byte) (w : Word) (j : Nat) :
    (putFlag .sign (ah.getLsbD 7) (putFlag .zero (ah.getLsbD 6) (putFlag .aux (ah.getLsbD 4)
      (putFlag .parity (ah.getLsbD 2) (putFlag .carry (ah.getLsbD 0) w))))).getLsbD j =
    if j ∈ [0, 2, 4, 6, 7] then ah.getLsbD j else w.getLsbD j := by
  simp only [getLsbD_putFlag, Flag.bit, List.mem_cons, List.not_mem_nil, or_false]
  by_cases hj : j = 0 ∨ j = 2 ∨ j = 4 ∨ j = 6 ∨ j = 7
  · rw [if_pos hj]
    obtain rfl | rfl | rfl | rfl | rfl := hj <;> rfl
  · rw [if_neg hj]
    simp only [not_or] at hj
    simp only [hj, if_false]

/-! ### Ports (40_data_transfer.md R232 to R235) -/

theorem inByte_moved (p : Word) (s : State) :
    MovedByte (.reg .al) (ioIn8 p s).1 s (inByte p s) ∧ (inByte p s).events = (ioIn8 p s).2.events :=
  ⟨setReg8_movedFrom (by simp [sameSystem_iff]) (by simp) (by simp) (by simp [SameData]) _ _, rfl⟩

theorem inWord_moved (p : Word) (s : State) :
    MovedWord (.reg .ax) (ioIn16 p s).1 s (inWord p s) ∧ (inWord p s).events = (ioIn16 p s).2.events := by
  refine ⟨⟨by simp [sameSystem_iff, inWord], by simp [inWord], by simp [inWord], fun q => ?_, by simp [inWord], by
    simp [inWord]⟩, rfl⟩
  simp [inWord]

theorem ioOut8_eq (p : Word) (v : Byte) (s : State) : ioOut8 p v s = { s with events := (ioOut8 p v s).events } := by
  unfold ioOut8
  split <;> rfl

theorem ioOut16_eq (p v : Word) (s : State) : ioOut16 p v s = { s with events := (ioOut16 p v s).events } := by
  unfold ioOut16
  rw [ioOut8_eq (p + 1#16), ioOut8_eq p]

end dataTransfer

/-- Settles O29: each row is a move between two locations, or the write of an immediate to one. -/
theorem movRows : Obligations.MovRows := by
  constructor
  · intro s e g a v hw
    exact ⟨⟨_, rfl, move8_moved hw _ _⟩, ⟨_, rfl, move8_moved hw _ _⟩, ⟨_, rfl, move8_moved hw _ _⟩,
      ⟨_, rfl, move8_moved hw _ _⟩, ⟨_, rfl, setReg8_moved g v s⟩, ⟨_, rfl, writeLoc8_moved hw _ v⟩⟩
  · intro s e g a v hw
    exact ⟨⟨_, rfl, move16_moved hw _ _⟩, ⟨_, rfl, move16_moved hw _ _⟩, ⟨_, rfl, move16_moved hw _ _⟩,
      ⟨_, rfl, move16_moved hw _ _⟩, ⟨_, rfl, move16_moved hw _ _⟩, ⟨_, rfl, move16_moved hw _ _⟩,
      ⟨_, rfl, move16_moved hw _ _⟩, ⟨_, rfl, move16_moved hw _ _⟩, ⟨_, rfl, move16_moved hw _ _⟩,
      ⟨_, rfl, move16_moved hw _ _⟩, ⟨_, rfl, move16_moved hw _ _⟩, ⟨_, rfl, setReg16_moved g v s⟩,
      ⟨_, rfl, writeLoc16_moved hw _ v⟩⟩

/-- Settles O30: the exchange of two registers, or of a register with what memory held before the store. -/
theorem xchgRowsExchange : Obligations.XchgRowsExchange :=
  ⟨fun s r g => ⟨_, rfl, exchange8_regs r g s⟩, fun _ _ g hw => ⟨_, rfl, exchange8_mem hw _ _ g⟩,
    fun s r g => ⟨_, rfl, exchange16_regs r g s⟩, fun _ _ g hw => ⟨_, rfl, exchange16_mem hw _ _ g⟩,
    fun s r => ⟨_, rfl, exchange16_regs .ax r s⟩, fun _ => rfl⟩

/-- Settles O31: LEA is the write of a register; LDS and LES differ in the segment register alone. -/
theorem addressLoadRows : Obligations.AddressLoadRows := fun s g m =>
  ⟨⟨_, rfl, setReg16_moved g _ s⟩, ⟨_, rfl, loadFar_frame g .ds m s⟩, ⟨_, rfl, loadFar_frame g .es m s⟩⟩

/-- Settles O32: an operand is pushed as it reads after SP is decremented, any other word as it is. -/
theorem pushRows : Obligations.PushRows := by
  intro s r e v b hw
  refine ⟨⟨_, rfl, ?reg⟩, ⟨_, rfl, pushRm_pushed hw e⟩, ⟨_, rfl, push16_pushed hw _⟩, ⟨_, rfl, push16_pushed hw _⟩,
    ⟨_, rfl, push16_pushed hw _⟩, ⟨_, rfl, push16_pushed hw _⟩, ⟨_, rfl, push16_pushed hw _⟩, fun hv =>
    ⟨⟨_, v20Only_next hv, push16_pushed hw v⟩, ⟨_, v20Only_next hv, push16_pushed hw _⟩⟩⟩
  case reg => simpa [loc16] using pushRm_pushed hw (.reg r)

/-- Settles O33: each row is a pop followed by the write of its destination. -/
theorem popRows : Obligations.PopRows := by
  rintro s r m _ hw rfl
  refine ⟨⟨_, rfl, popLoc_reg r s⟩, ⟨_, rfl, popLoc_reg r s⟩, ⟨_, rfl, popLoc_mem hw _ _⟩, ?segments, ⟨_, rfl, ?flags⟩⟩
  case segments =>
    simp only [List.forall_mem_cons, List.not_mem_nil, false_imp_iff, implies_true, and_true]
    exact ⟨⟨_, rfl, popLoc_sreg .es s⟩, ⟨_, rfl, popLoc_sreg .ss s⟩, ⟨_, rfl, popLoc_sreg .ds s⟩⟩
  case flags =>
    obtain ⟨hy, hi, -, hs, hm, -, -⟩ := pop16_frame s
    obtain ⟨hregs, hsp⟩ := pop16_sp (s := s) (t := storeFlags (pop16 s).1 (pop16 s).2) rfl
    exact ⟨hy.trans (by simp [sameSystem_iff]), hi, hs, hm, hregs, hsp, rfl⟩

/-- Settles O34: four rows are the write of one register, SAHF that of five bits. -/
theorem flagTransferAndConversionRows : Obligations.FlagTransferAndConversionRows := by
  intro s
  refine ⟨⟨_, rfl, setReg8_moved .ah _ s⟩, ⟨_, rfl, rfl, ⟨rfl, rfl⟩, rfl, ⟨rfl, rfl, rfl⟩, getLsbD_sahf _ _⟩,
    ⟨_, rfl, setReg16_moved .ax _ s⟩, ⟨_, rfl, ?cwd⟩, ⟨_, rfl, move8_reg_moved _ _ s⟩⟩
  case cwd =>
    have hmsb : s.gpr.ax.msb = s.gpr.ax.getLsbD 15 := BitVec.msb_eq_getLsbD_last _
    rw [← hmsb]
    exact (setReg16_moved .dx _ s).symm

/-- Settles O35: IN is the write of the accumulator after the port is read, OUT an event. -/
theorem portRows : Obligations.PortRows :=
  ⟨fun s _ => ⟨⟨_, rfl, inByte_moved _ s⟩, ⟨_, rfl, inByte_moved _ s⟩, ⟨_, rfl, inWord_moved _ s⟩,
      ⟨_, rfl, inWord_moved _ s⟩⟩,
    fun s _ => ⟨⟨_, rfl, ioOut8_eq _ _ s, rfl⟩, ⟨_, rfl, ioOut8_eq _ _ s, rfl⟩, ⟨_, rfl, ioOut16_eq _ _ s, rfl⟩,
      ⟨_, rfl, ioOut16_eq _ _ s, rfl⟩⟩⟩

end Sys2Proof.Machine

namespace Sys2Proof.Machine

open Rows

section arithmeticFlags

variable {n : Nat}

/-! ### The 32-bit sum and difference behind `AddFlags` and `SubFlags` (41_arithmetic.md R262, R263) -/

/-- The sum of `AddFlags`, in 32 bits. -/
def wideSum (a b : BitVec n) (c : Bool) : BitVec 32 := a.setWidth 32 + b.setWidth 32 + (BitVec.ofBool c).setWidth 32

/-- The difference of `SubFlags`, in 32 bits. -/
def wideDiff (a b : BitVec n) (c : Bool) : BitVec 32 := a.setWidth 32 - b.setWidth 32 - (BitVec.ofBool c).setWidth 32

theorem toNat_wideSum (hn : n ≤ 16) (a b : BitVec n) (c : Bool) : (wideSum a b c).toNat = a.toNat + b.toNat + c.toNat := by
  have hle : 2 ^ n ≤ 2 ^ 16 := Nat.pow_le_pow_right (by decide) hn
  have ha := a.isLt
  have hb := b.isLt
  have hc := c.toNat_le
  simp only [wideSum, BitVec.toNat_add, BitVec.toNat_setWidth, BitVec.toNat_ofBool]
  omega

/-- A difference below 0 is read as its complement to `2 ^ 32`. -/
theorem toNat_wideDiff (hn : n ≤ 16) (a b : BitVec n) (c : Bool) :
    ((wideDiff a b c).toNat : Int) = ((a.toNat : Int) - b.toNat - c.toNat) % 2 ^ 32 := by
  have hle : 2 ^ n ≤ 2 ^ 16 := Nat.pow_le_pow_right (by decide) hn
  have ha := a.isLt
  have hb := b.isLt
  have hc := c.toNat_le
  simp only [wideDiff, BitVec.toNat_sub, BitVec.toNat_setWidth, BitVec.toNat_ofBool]
  omega

/-! ### The masks read single bits, or the bits above the operand's -/

theorem getLsbD_eq_decide (x : BitVec n) (k : Nat) : x.getLsbD k = decide (x.toNat / 2 ^ k % 2 = 1) := by
  rw [← BitVec.testBit_toNat, Nat.testBit_eq_decide_div_mod_eq]

theorem xor_decide_odd (x y : Nat) : (decide (x % 2 = 1) ^^ decide (y % 2 = 1)) = decide ((x + y) % 2 = 1) := by
  rcases Nat.mod_two_eq_zero_or_one x with hx | hx <;> rcases Nat.mod_two_eq_zero_or_one y with hy | hy <;>
    simp [Nat.add_mod, hx, hy]

/-- The field of `k` bits from bit `j` on. -/
theorem and_field_eq (x j k : Nat) : x &&& (2 ^ k - 1) * 2 ^ j = x / 2 ^ j % 2 ^ k * 2 ^ j := by
  apply Nat.eq_of_testBit_eq
  intro i
  rw [Nat.testBit_and, Nat.testBit_mul_two_pow, Nat.testBit_mul_two_pow, Nat.testBit_two_pow_sub_one,
    Nat.testBit_mod_two_pow, Nat.testBit_div_two_pow]
  by_cases h : j ≤ i
  · simp [h, Bool.and_comm]
  · simp [h]

theorem bne_eq_decide_ne (x y : BitVec n) : (x != y) = decide (x ≠ y) := by
  rw [bne, beq_eq_decide, decide_not]

theorem and_twoPow_bne_zero (x : BitVec 32) {k : Nat} (hk : k < 32) : (x &&& BitVec.twoPow 32 k != 0#32) = x.getLsbD k := by
  rw [BitVec.and_twoPow]
  cases x.getLsbD k
  · rfl
  · have h : BitVec.twoPow 32 k ≠ 0#32 := fun e => by simpa [hk] using congrArg (·.getLsbD k) e
    simpa using h

theorem and_ovMask_bne_zero (hn : n = 8 ∨ n = 16) (x : BitVec 32) : (x &&& ovMask n != 0#32) = x.getLsbD (n - 1) := by
  have hm : ovMask n = BitVec.twoPow 32 (n - 1) := by rcases hn with rfl | rfl <;> decide
  rw [hm, and_twoPow_bne_zero x (by omega)]

theorem and_carryMask_bne_zero (hn : n = 8 ∨ n = 16) (x : BitVec 32) :
    (x &&& carryMask n != 0#32) = decide (x.toNat / 2 ^ n % 2 ^ n ≠ 0) := by
  have hm : (carryMask n).toNat = (2 ^ n - 1) * 2 ^ n := by rcases hn with rfl | rfl <;> decide
  have hf : (x &&& carryMask n).toNat = x.toNat / 2 ^ n % 2 ^ n * 2 ^ n := by
    rw [BitVec.toNat_and, hm, and_field_eq]
  have hz : x &&& carryMask n = 0#32 ↔ x.toNat / 2 ^ n % 2 ^ n = 0 := by
    rw [← BitVec.toNat_inj, hf]
    simp
  rw [bne_eq_decide_ne, decide_eq_decide, Ne, hz]

/-! ### The results of `AddFlags` and `SubFlags` by the exact sum and difference (41_arithmetic.md R262, R263) -/

theorem isStatusBit_eq_false {j : Nat} (h : j ∉ [0, 2, 4, 6, 7, 11]) : isStatusBit j = false := by
  simpa [isStatusBit, and_assoc] using h

section

variable (a b : BitVec n) (c : Bool) (fl : Word)

theorem addFlags_fst : (addFlags a b c fl).1 = (wideSum a b c).setWidth n := rfl

theorem subFlags_fst : (subFlags a b c fl).1 = (wideDiff a b c).setWidth n := rfl

theorem addFlags_szp : flagOf .sign (addFlags a b c fl).2 = (addFlags a b c fl).1.msb ∧
    flagOf .zero (addFlags a b c fl).2 = decide ((addFlags a b c fl).1 = 0#n) ∧
    flagOf .parity (addFlags a b c fl).2 = parity ((addFlags a b c fl).1.setWidth 8) :=
  ⟨szp_sign _ _, szp_zero _ _, szp_parity _ _⟩

theorem subFlags_szp : flagOf .sign (subFlags a b c fl).2 = (subFlags a b c fl).1.msb ∧
    flagOf .zero (subFlags a b c fl).2 = decide ((subFlags a b c fl).1 = 0#n) ∧
    flagOf .parity (subFlags a b c fl).2 = parity ((subFlags a b c fl).1.setWidth 8) :=
  ⟨szp_sign _ _, szp_zero _ _, szp_parity _ _⟩

theorem toNat_addFlags (hn : n ≤ 16) : (addFlags a b c fl).1.toNat = (a.toNat + b.toNat + c.toNat) % 2 ^ n := by
  rw [addFlags_fst, BitVec.toNat_setWidth, toNat_wideSum hn]

theorem toNat_subFlags (hn : n ≤ 16) :
    ((subFlags a b c fl).1.toNat : Int) = ((a.toNat : Int) - b.toNat - c.toNat) % 2 ^ n := by
  have hd : ((2 : Int) ^ n) ∣ 2 ^ 32 := pow_dvd_pow 2 (by omega)
  rw [subFlags_fst, BitVec.toNat_setWidth, Int.natCast_emod, toNat_wideDiff hn]
  simpa using Int.emod_emod_of_dvd _ hd

variable (hn : n = 8 ∨ n = 16)

include hn

theorem carry_addFlags : flagOf .carry (addFlags a b c fl).2 = decide (2 ^ n ≤ a.toNat + b.toNat + c.toNat) := by
  have hm : flagOf .carry (addFlags a b c fl).2 = (wideSum a b c &&& carryMask n != 0#32) := by simp [addFlags, szp, wideSum]
  have hc := c.toNat_le
  rw [hm, and_carryMask_bne_zero hn, toNat_wideSum (by omega), decide_eq_decide]
  rcases hn with rfl | rfl <;> omega

theorem overflow_addFlags : flagOf .overflow (addFlags a b c fl).2 =
    decide (a.toInt + b.toInt + c.toNat < -(2 ^ (n - 1) : Int) ∨ (2 ^ (n - 1) : Int) ≤ a.toInt + b.toInt + c.toNat) := by
  have hm : flagOf .overflow (addFlags a b c fl).2 =
      ((wideSum a b c ^^^ a.setWidth 32) &&& (wideSum a b c ^^^ b.setWidth 32) &&& ovMask n != 0#32) := by
    simp [addFlags, szp, wideSum]
  have hc := c.toNat_le
  rw [hm, and_ovMask_bne_zero hn, BitVec.getLsbD_and, BitVec.getLsbD_xor, BitVec.getLsbD_xor]
  simp only [getLsbD_eq_decide, xor_decide_odd, ← Bool.decide_and, decide_eq_decide, toNat_wideSum (show n ≤ 16 by omega),
    BitVec.toNat_setWidth, BitVec.toInt_eq_toNat_cond]
  rcases hn with rfl | rfl <;> omega

theorem aux_addFlags : flagOf .aux (addFlags a b c fl).2 = decide (16 ≤ a.toNat % 16 + b.toNat % 16 + c.toNat) := by
  have hm : flagOf .aux (addFlags a b c fl).2 =
      ((a.setWidth 32 ^^^ b.setWidth 32 ^^^ wideSum a b c) &&& BitVec.twoPow 32 4 != 0#32) := by
    simp only [addFlags, szp, wideSum, flagOf_putFlag]; rfl
  have hc := c.toNat_le
  rw [hm, and_twoPow_bne_zero _ (by decide), BitVec.getLsbD_xor, BitVec.getLsbD_xor]
  simp only [getLsbD_eq_decide, xor_decide_odd, decide_eq_decide, toNat_wideSum (show n ≤ 16 by omega), BitVec.toNat_setWidth]
  rcases hn with rfl | rfl <;> omega

theorem carry_subFlags : flagOf .carry (subFlags a b c fl).2 = decide (a.toNat < b.toNat + c.toNat) := by
  have hm : flagOf .carry (subFlags a b c fl).2 = (wideDiff a b c &&& carryMask n != 0#32) := by simp [subFlags, szp, wideDiff]
  have hc := c.toNat_le
  have hd := toNat_wideDiff (show n ≤ 16 by omega) a b c
  rw [hm, and_carryMask_bne_zero hn, decide_eq_decide]
  rcases hn with rfl | rfl <;> omega

theorem overflow_subFlags : flagOf .overflow (subFlags a b c fl).2 =
    decide (a.toInt - b.toInt - c.toNat < -(2 ^ (n - 1) : Int) ∨ (2 ^ (n - 1) : Int) ≤ a.toInt - b.toInt - c.toNat) := by
  have hm : flagOf .overflow (subFlags a b c fl).2 =
      ((wideDiff a b c ^^^ a.setWidth 32) &&& (a.setWidth 32 ^^^ b.setWidth 32) &&& ovMask n != 0#32) := by
    simp [subFlags, szp, wideDiff]
  have hc := c.toNat_le
  have hd := toNat_wideDiff (show n ≤ 16 by omega) a b c
  rw [hm, and_ovMask_bne_zero hn, BitVec.getLsbD_and, BitVec.getLsbD_xor, BitVec.getLsbD_xor]
  simp only [getLsbD_eq_decide, xor_decide_odd, ← Bool.decide_and, decide_eq_decide, BitVec.toNat_setWidth,
    BitVec.toInt_eq_toNat_cond]
  rcases hn with rfl | rfl <;> omega

theorem aux_subFlags : flagOf .aux (subFlags a b c fl).2 = decide (a.toNat % 16 < b.toNat % 16 + c.toNat) := by
  have hm : flagOf .aux (subFlags a b c fl).2 =
      ((a.setWidth 32 ^^^ b.setWidth 32 ^^^ wideDiff a b c) &&& BitVec.twoPow 32 4 != 0#32) := by
    simp only [subFlags, szp, wideDiff, flagOf_putFlag]; rfl
  have hc := c.toNat_le
  have hd := toNat_wideDiff (show n ≤ 16 by omega) a b c
  rw [hm, and_twoPow_bne_zero _ (by decide), BitVec.getLsbD_xor, BitVec.getLsbD_xor]
  simp only [getLsbD_eq_decide, xor_decide_odd, decide_eq_decide, BitVec.toNat_setWidth]
  rcases hn with rfl | rfl <;> omega

end

/-! ### The logical operations (42_logic_shift.md R320) and the parity of a byte (41_arithmetic.md R261) -/

/-- An even number of elements has the property exactly when their exclusive or is false. -/
theorem decide_countP_even (p : Nat → Bool) (l : List Nat) :
    decide (l.countP p % 2 = 0) = !(l.map p).foldr xor false := by
  induction l with
  | nil => rfl
  | cons k l ih =>
    cases hk : p k
    · simpa [hk] using ih
    · rw [List.countP_cons_of_pos hk, List.map_cons, List.foldr_cons, hk, Bool.true_xor, ← ih, ← decide_not,
        decide_eq_decide]
      omega

theorem parity_eq (b : Byte) : parity b = decide ((List.range 8).countP (fun k => b.getLsbD k) % 2 = 0) := by
  rw [decide_countP_even]
  simp [parity, List.range_succ]

theorem parity_setWidth (r : BitVec n) :
    parity (r.setWidth 8) = decide ((List.range 8).countP (fun k => r.getLsbD k) % 2 = 0) := by
  rw [parity_eq, List.countP_congr fun k hk => ?_]
  simp [List.mem_range.1 hk]

theorem logicFlags_szp (r : BitVec n) (fl : Word) : flagOf .sign (logicFlags r fl) = r.msb ∧
    flagOf .zero (logicFlags r fl) = decide (r = 0#n) ∧ flagOf .parity (logicFlags r fl) = parity (r.setWidth 8) :=
  ⟨szp_sign _ _, szp_zero _ _, szp_parity _ _⟩

theorem getLsbD_logicFlags (r : BitVec n) (fl : Word) {j : Nat} (h : j ∉ [0, 2, 6, 7, 11]) :
    (logicFlags r fl).getLsbD j = fl.getLsbD j := by
  simp only [List.mem_cons, List.not_mem_nil, or_false, not_or] at h
  simp [logicFlags, szp, Flag.bit, h]

/-! ### INC, DEC and NEG (41_arithmetic.md R264, R273) -/

theorem addFlags_fst_eq (hn : n ≤ 32) (a b : BitVec n) (fl : Word) : (addFlags a b false fl).1 = a + b := by
  simp [addFlags_fst, wideSum, BitVec.setWidth_add _ _ hn, hn]

theorem subFlags_fst_eq (hn : n ≤ 32) (a b : BitVec n) (fl : Word) : (subFlags a b false fl).1 = a - b := by
  simp [subFlags_fst, wideDiff, BitVec.sub_eq_add_neg, BitVec.setWidth_add _ _ hn, BitVec.setWidth_neg_of_le hn, hn]

theorem incFlags_fst (hn : n ≤ 32) (a : BitVec n) (fl : Word) : (incFlags a fl).1 = a + 1#n := addFlags_fst_eq hn a 1#n fl

theorem decFlags_fst (hn : n ≤ 32) (a : BitVec n) (fl : Word) : (decFlags a fl).1 = a - 1#n := subFlags_fst_eq hn a 1#n fl

theorem negFlags_fst (hn : n ≤ 32) (a : BitVec n) (fl : Word) : (negFlags a fl).1 = -a := by
  rw [negFlags, subFlags_fst_eq hn, BitVec.zero_sub]

end arithmeticFlags

section aluRows

/-! ### The rows of the ALU by form (30_encoding.md R116; exec_aluRmReg8 stands with the accesses of an `Opaque` device) -/

variable (op : AluOp) (s : State)

theorem exec_aluRegRm8 (g : Reg8) (e : RM Reg8) : exec (aluRegRm8 op g e) s = .next (alu8 op (.reg g) (loc8 e s) s) := by
  cases op <;> rfl
theorem exec_aluAccImm8 (v : Byte) : exec (aluAccImm8 op v) s = .next (aluImm8 op (.reg .al) v s) := by cases op <;> rfl
theorem exec_aluRmImm8 (e : RM Reg8) (v : Byte) : exec (aluRmImm8 op e v) s = .next (aluImm8 op (loc8 e s) v s) := by
  cases op <;> rfl
theorem exec_aluRmImm8Alias (e : RM Reg8) (v : Byte) :
    exec (aluRmImm8Alias op e v) s = .next (aluImm8 op (loc8 e s) v s) := by cases op <;> rfl
theorem exec_aluRmReg16 (e : RM Reg16) (g : Reg16) : exec (aluRmReg16 op e g) s = .next (alu16 op (loc16 e s) (.reg g) s) := by
  cases op <;> rfl
theorem exec_aluRegRm16 (g : Reg16) (e : RM Reg16) : exec (aluRegRm16 op g e) s = .next (alu16 op (.reg g) (loc16 e s) s) := by
  cases op <;> rfl
theorem exec_aluAccImm16 (v : Word) : exec (aluAccImm16 op v) s = .next (aluImm16 op (.reg .ax) v s) := by cases op <;> rfl
theorem exec_aluRmImm16 (e : RM Reg16) (v : Word) : exec (aluRmImm16 op e v) s = .next (aluImm16 op (loc16 e s) v s) := by
  cases op <;> rfl
theorem exec_aluRmImmSx (e : RM Reg16) (b : Byte) :
    exec (aluRmImmSx op e b) s = .next (aluImm16 op (loc16 e s) (b.signExtend 16) s) := by cases op <;> rfl

/-- A register source reads after the destination as before it. -/
theorem alu8_ofReg_done {s : State} (hw : s.mem.wf = true) (d : Loc8) (g : Reg8) :
    AluByteDone op d (readLoc8 d s).1 (reg8 g s) s (alu8 op d (.reg g) s) := by
  simpa using alu8_done hw op d (.reg g)

theorem alu16_ofReg_done {s : State} (hw : s.mem.wf = true) (d : Loc16) (g : Reg16) :
    AluWordDone op d (readLoc16 d s).1 (reg16 g s) s (alu16 op d (.reg g) s) := by
  simpa using alu16_done hw op d (.reg g)

/-- An immediate on a register reaches no device. -/
theorem aluImm8_reg_quiet (r : Reg8) (v : Byte) : Quiet s (aluImm8 op (.reg r) v s) := by
  cases op <;> exact ⟨rfl, rfl⟩

theorem aluImm16_reg_quiet (r : Reg16) (v : Word) : Quiet s (aluImm16 op (.reg r) v s) := by
  cases op <;> exact ⟨rfl, rfl⟩

/-! ### Read, modify, write (41_arithmetic.md R271 to R273) -/

/-- A read-modify-write row whose value does not depend on FLAGS. -/
theorem modify8_value {s : State} (hw : s.mem.wf = true) {f : Byte → Word → Byte × Word} {g : Byte → Byte}
    (hf : ∀ a fl, (f a fl).1 = g a) (e : RM Reg8) :
    SameSystem s (modify8 f (loc8 e s) s) ∧ (modify8 f (loc8 e s) s).ip = s.ip ∧
      (modify8 f (loc8 e s) s).flags = (f (value8 e s) s.flags).2 ∧
      PutByte (loc8 e s) (g (value8 e s)) s (modify8 f (loc8 e s) s) := by
  rw [← hf _ s.flags]
  exact modify8_done hw f (loc8 e s)

theorem modify16_value {s : State} (hw : s.mem.wf = true) {f : Word → Word → Word × Word} {g : Word → Word}
    (hf : ∀ a fl, (f a fl).1 = g a) (e : RM Reg16) :
    SameSystem s (modify16 f (loc16 e s) s) ∧ (modify16 f (loc16 e s) s).ip = s.ip ∧
      (modify16 f (loc16 e s) s).flags = (f (value16 e s) s.flags).2 ∧
      PutWord (loc16 e s) (g (value16 e s)) s (modify16 f (loc16 e s) s) := by
  rw [← hf _ s.flags]
  exact modify16_done hw f (loc16 e s)

/-- On a register it reaches no device either. -/
theorem modify16_reg_value {s : State} (hw : s.mem.wf = true) {f : Word → Word → Word × Word} {g : Word → Word}
    (hf : ∀ a fl, (f a fl).1 = g a) (r : Reg16) :
    SameSystem s (modify16 f (.reg r) s) ∧ Quiet s (modify16 f (.reg r) s) ∧ (modify16 f (.reg r) s).ip = s.ip ∧
      (modify16 f (.reg r) s).flags = (f (reg16 r s) s.flags).2 ∧
      PutWord (.reg r) (g (reg16 r s)) s (modify16 f (.reg r) s) :=
  have ⟨hsystem, hrest⟩ := modify16_value hw hf (.reg r)
  ⟨hsystem, ⟨rfl, rfl⟩, hrest⟩

end aluRows

section computed

variable {s t u : State}

/-! ### What a row that writes registers and status flags leaves alone -/

theorem SameRegsBut.trans {rs : List Reg16} (h : SameRegsBut rs s t) (h' : SameRegsBut rs t u) : SameRegsBut rs s u :=
  fun r hr => (h' r hr).trans (h r hr)

/-- What an operation on registers and status flags keeps, once every status flag is named. -/
theorem Tame.sameFlagsBut (h : Tame s t) {fs : List Flag} (hfs : statusFlags ⊆ fs) : SameFlagsBut fs s t := by
  intro i hi
  refine h.2.2 i ?_
  have hne (f : Flag) (hf : f ∈ statusFlags) : i ≠ f.bit := (hi f (hfs hf)).symm
  simpa [statusFlags, Flag.bit, isStatusBit, and_assoc, and_comm, and_left_comm] using hne

/-- `t` is `s` but for the registers `rs`, the status flags and the device record (41_arithmetic.md R280 to R283, R292 to
R295). -/
structure Computed (rs : List Reg16) (s t : State) : Prop where
  tame : Tame s t
  ip : t.ip = s.ip
  seg : t.seg = s.seg
  mem : t.mem = s.mem
  regs : SameRegsBut rs s t

theorem Computed.trans {rs : List Reg16} (h : Computed rs s t) (h' : Computed rs t u) : Computed rs s u where
  tame := h.tame.trans h'.tame
  ip := h'.ip.trans h.ip
  seg := h'.seg.trans h.seg
  mem := h'.mem.trans h.mem
  regs := h.regs.trans h'.regs

theorem Computed.refl (rs : List Reg16) (s : State) : Computed rs s s := ⟨.refl s, rfl, rfl, rfl, .refl rs s⟩

theorem computed_readLoc8 (rs : List Reg16) (l : Loc8) (s : State) : Computed rs s (readLoc8 l s).2 :=
  ⟨tame_readLoc8 l (.refl s), by simp, by simp, by simp, sameRegsBut_of_gpr_eq rs (by simp)⟩

theorem computed_readLoc16 (rs : List Reg16) (l : Loc16) (s : State) : Computed rs s (readLoc16 l s).2 :=
  ⟨tame_readLoc16 l (.refl s), by simp, by simp, by simp, sameRegsBut_of_gpr_eq rs (by simp)⟩

theorem Computed.setReg16 {rs : List Reg16} (h : Computed rs s t) {r : Reg16} (hr : r ∈ rs) (v : Word) :
    Computed rs s (setReg16 r v t) :=
  h.trans ⟨tame_setReg16 r v (.refl t), rfl, rfl, rfl, sameRegsBut_of_set rfl rs hr⟩

theorem Computed.setReg8 {rs : List Reg16} (h : Computed rs s t) {r : Reg8} (hr : wholeOf r ∈ rs) (v : Byte) :
    Computed rs s (setReg8 r v t) := h.setReg16 hr _

theorem Computed.setFlag {rs : List Reg16} (h : Computed rs s t) {f : Flag} (hf : isStatusBit f.bit = true) (b : Bool) :
    Computed rs s (setFlag f b t) :=
  h.trans ⟨tame_setFlag f b hf (.refl t), rfl, rfl, rfl, .refl rs t⟩

theorem Computed.undefFlags {rs : List Reg16} (h : Computed rs s t) {fs : List Flag}
    (hfs : ∀ f ∈ fs, isStatusBit f.bit = true) : Computed rs s (undefFlags fs t) :=
  h.trans ⟨tame_undefFlags fs hfs (.refl t), by simp, by simp, by simp, sameRegsBut_of_gpr_eq rs (by simp)⟩

theorem Computed.mulFlags {rs : List Reg16} (h : Computed rs s t) (b : Bool) : Computed rs s (mulFlags b t) :=
  h.trans ⟨tame_mulFlags b (.refl t), by simp [Machine.mulFlags], by simp [Machine.mulFlags], by simp [Machine.mulFlags],
    sameRegsBut_of_gpr_eq rs (by simp [Machine.mulFlags])⟩

end computed

section multiplyDivide

variable {s : State} {w : Nat}

/-! ### MUL and IMUL (41_arithmetic.md R280, R281) -/

theorem flag_mulFlags (b : Bool) (s : State) :
    flag .carry (mulFlags b s) = b ∧ flag .overflow (mulFlags b s) = b := by
  unfold mulFlags
  rw [undefFlags_flag _ _ (by decide), undefFlags_flag _ _ (by decide)]
  simp

theorem mulFlags_gpr (b : Bool) (s : State) : (mulFlags b s).gpr = s.gpr := by simp [mulFlags]

/-- The pair DX : AX holds what was put there. -/
theorem append_setDxAx (p : BitVec 32) (s : State) : (setDxAx p s).gpr.dx ++ (setDxAx p s).gpr.ax = p := by
  show p.extractLsb' 16 16 ++ p.extractLsb' 0 16 = p
  exact (BitVec.extractLsb'_append_extractLsb'_eq_extractLsb' rfl).trans BitVec.extractLsb'_eq_self

theorem toNat_setWidth_mul {v : Nat} (h : w + w ≤ v) (a b : BitVec w) :
    (a.setWidth v * b.setWidth v).toNat = a.toNat * b.toNat := by
  have hlt : a.toNat * b.toNat < 2 ^ v := calc
    a.toNat * b.toNat < 2 ^ w * 2 ^ w := Nat.mul_lt_mul'' a.isLt b.isLt
    _ = 2 ^ (w + w) := (Nat.pow_add 2 w w).symm
    _ ≤ 2 ^ v := Nat.pow_le_pow_right (by decide) h
  have ha : (a.setWidth v).toNat = a.toNat := BitVec.toNat_setWidth_of_le (by omega)
  have hb : (b.setWidth v).toNat = b.toNat := BitVec.toNat_setWidth_of_le (by omega)
  rw [BitVec.toNat_mul_of_lt (by rwa [ha, hb]), ha, hb]

theorem toInt_ofInt_mul {v : Nat} (hw : 0 < w) (h : w * 2 ≤ v) (a b : BitVec w) :
    (BitVec.ofInt v (a.toInt * b.toInt)).toInt = a.toInt * b.toInt := by
  have hlo := BitVec.le_toInt_mul_toInt (x := a) (y := b)
  have hhi := BitVec.toInt_mul_toInt_le (x := a) (y := b)
  have hpow : (2 : Int) ^ (w * 2 - 2) < 2 ^ (v - 1) := pow_lt_pow_right₀ (by decide) (by omega)
  exact BitVec.toInt_ofInt_eq_self (by omega) (by omega) (by omega)

theorem extractLsb'_ofInt {v : Nat} (h : w ≤ v) (p : Int) : (BitVec.ofInt v p).extractLsb' 0 w = BitVec.ofInt w p := by
  have hdvd : ((2 ^ w : Nat) : Int) ∣ (2 ^ v : Nat) := Int.natCast_dvd_natCast.2 (Nat.pow_dvd_pow 2 h)
  have hpos : ((2 ^ v : Nat) : Int) ≠ 0 := Int.natCast_ne_zero.2 (Nat.two_pow_pos v).ne'
  apply BitVec.eq_of_toInt_eq
  rw [← BitVec.setWidth_eq_extractLsb' h, BitVec.toInt_setWidth, BitVec.toInt_ofInt, BitVec.toNat_ofInt,
    Int.toNat_of_nonneg (Int.emod_nonneg p hpos), ← Int.emod_bmod, Int.emod_emod_of_dvd p hdvd, Int.emod_bmod]

/-- A number is not the sign extension of its low bits exactly when they cannot hold it. -/
theorem ne_toInt_ofInt_iff (hw : 0 < w) (p : Int) :
    p ≠ (BitVec.ofInt w p).toInt ↔ p < -2 ^ (w - 1) ∨ 2 ^ (w - 1) - 1 < p := by
  constructor
  · intro h
    by_contra hr
    exact h (BitVec.toInt_ofInt_eq_self hw (by omega) (by omega)).symm
  · intro h e
    have hlo := BitVec.le_toInt (BitVec.ofInt w p)
    have hhi := BitVec.toInt_lt (x := BitVec.ofInt w p)
    omega

/-- The byte forms: the product goes to AX. -/
theorem mulFlags_ax_frame (l : Loc8) (b : Bool) (p : Word) (s : State) :
    let t := mulFlags b (setReg16 .ax p (readLoc8 l s).2)
    SameSystem s t ∧ t.ip = s.ip ∧ t.seg = s.seg ∧ t.mem = s.mem ∧ SameRegsBut [.ax] s t ∧ t.gpr.ax = p ∧
      flag .carry t = b ∧ flag .overflow t = b ∧ SameFlagsBut [.carry, .overflow, .sign, .zero, .aux, .parity] s t := by
  have hc : Computed [.ax] s (mulFlags b (setReg16 .ax p (readLoc8 l s).2)) :=
    ((computed_readLoc8 _ l s).setReg16 (by decide) p).mulFlags b
  obtain ⟨hcf, hof⟩ := flag_mulFlags b (setReg16 .ax p (readLoc8 l s).2)
  exact ⟨hc.tame.1, hc.ip, hc.seg, hc.mem, hc.regs, by simp [mulFlags_gpr], hcf, hof, hc.tame.sameFlagsBut (by decide)⟩

/-- The word forms: the product goes to DX : AX. -/
theorem mulFlags_dxAx_frame (l : Loc16) (b : Bool) (p : BitVec 32) (s : State) :
    let t := mulFlags b (setDxAx p (readLoc16 l s).2)
    SameSystem s t ∧ t.ip = s.ip ∧ t.seg = s.seg ∧ t.mem = s.mem ∧ SameRegsBut [.ax, .dx] s t ∧
      t.gpr.dx ++ t.gpr.ax = p ∧ t.gpr.dx = p.extractLsb' 16 16 ∧ flag .carry t = b ∧ flag .overflow t = b ∧
      SameFlagsBut [.carry, .overflow, .sign, .zero, .aux, .parity] s t := by
  have hc : Computed [.ax, .dx] s (mulFlags b (setDxAx p (readLoc16 l s).2)) :=
    (((computed_readLoc16 _ l s).setReg16 (by decide) _).setReg16 (by decide) _).mulFlags b
  obtain ⟨hcf, hof⟩ := flag_mulFlags b (setDxAx p (readLoc16 l s).2)
  exact ⟨hc.tame.1, hc.ip, hc.seg, hc.mem, hc.regs, by rw [mulFlags_gpr, append_setDxAx], by rw [mulFlags_gpr]; rfl,
    hcf, hof, hc.tame.sameFlagsBut (by decide)⟩

theorem mulEb_product (e : RM Reg8) (s : State) :
    ∃ p : Word, exec (.mulEb e) s =
        .next (mulFlags (decide (hiByte p ≠ 0#8)) (setReg16 .ax p (readLoc8 (loc8 e s) s).2)) ∧
      p.toNat = (reg8 .al s).toNat * (value8 e s).toNat := by
  refine ⟨_, ?_, toNat_setWidth_mul (by decide) (reg8 .al s) (value8 e s)⟩
  rw [← bne_eq_decide_ne, ← readLoc8_reg8 (loc8 e s) s .al]
  rfl

theorem mulEv_product (e : RM Reg16) (s : State) :
    ∃ p : BitVec 32, exec (.mulEv e) s =
        .next (mulFlags (decide (p.extractLsb' 16 16 ≠ 0#16)) (setDxAx p (readLoc16 (loc16 e s) s).2)) ∧
      p.toNat = s.gpr.ax.toNat * (value16 e s).toNat := by
  refine ⟨_, ?_, toNat_setWidth_mul (by decide) s.gpr.ax (value16 e s)⟩
  rw [← bne_eq_decide_ne, ← readLoc16_gpr (loc16 e s) s]
  rfl

theorem imulEb_product (e : RM Reg8) (s : State) :
    ∃ p : Word, exec (.imulEb e) s = .next (mulFlags (decide (p.toInt < -128 ∨ 127 < p.toInt))
        (setReg16 .ax p (readLoc8 (loc8 e s) s).2)) ∧ p.toInt = (reg8 .al s).toInt * (value8 e s).toInt := by
  have hp := toInt_ofInt_mul (v := 16) (by decide) (by decide) (reg8 .al s) (value8 e s)
  refine ⟨_, ?_, hp⟩
  show execImulEb e s = _
  simp only [execImulEb, loByte, extractLsb'_ofInt (show 8 ≤ 16 by decide), ne_toInt_ofInt_iff (show 0 < 8 by decide),
    readLoc8_reg8]
  rw [hp]
  rfl

theorem imulEv_product (e : RM Reg16) (s : State) :
    ∃ p : BitVec 32, exec (.imulEv e) s = .next (mulFlags (decide (p.toInt < -32768 ∨ 32767 < p.toInt))
        (setDxAx p (readLoc16 (loc16 e s) s).2)) ∧ p.toInt = s.gpr.ax.toInt * (value16 e s).toInt := by
  have hp := toInt_ofInt_mul (v := 32) (by decide) (by decide) s.gpr.ax (value16 e s)
  refine ⟨_, ?_, hp⟩
  show execImulEv e s = _
  simp only [execImulEv, extractLsb'_ofInt (show 16 ≤ 32 by decide), ne_toInt_ofInt_iff (show 0 < 16 by decide),
    readLoc16_gpr]
  rw [hp]
  rfl

/-! ### DIV and IDIV (41_arithmetic.md R282, R283) -/

theorem quotient8_frame (l : Loc8) (q r : Byte) (s : State) :
    let t := quotient8 q r (readLoc8 l s).2
    SameSystem s t ∧ t.ip = s.ip ∧ t.seg = s.seg ∧ t.mem = s.mem ∧ SameRegsBut [.ax] s t ∧ reg8 .al t = q ∧
      reg8 .ah t = r ∧ SameFlagsBut [.carry, .overflow, .sign, .zero, .aux, .parity] s t := by
  have hc : Computed [.ax] s (quotient8 q r (readLoc8 l s).2) :=
    (((computed_readLoc8 _ l s).setReg8 (by decide) q).setReg8 (by decide) r).undefFlags (by decide)
  exact ⟨hc.tame.1, hc.ip, hc.seg, hc.mem, hc.regs, by simp [quotient8], by simp [quotient8],
    hc.tame.sameFlagsBut (by decide)⟩

theorem quotient16_frame (l : Loc16) (q r : Word) (s : State) :
    let t := quotient16 q r (readLoc16 l s).2
    SameSystem s t ∧ t.ip = s.ip ∧ t.seg = s.seg ∧ t.mem = s.mem ∧ SameRegsBut [.ax, .dx] s t ∧ t.gpr.ax = q ∧
      t.gpr.dx = r ∧ SameFlagsBut [.carry, .overflow, .sign, .zero, .aux, .parity] s t := by
  have hc : Computed [.ax, .dx] s (quotient16 q r (readLoc16 l s).2) :=
    (((computed_readLoc16 _ l s).setReg16 (by decide) q).setReg16 (by decide) r).undefFlags (by decide)
  exact ⟨hc.tame.1, hc.ip, hc.seg, hc.mem, hc.regs, by simp [quotient16], by simp [quotient16],
    hc.tame.sameFlagsBut (by decide)⟩

/-- A quotient that fits loses nothing in its register; the remainder always fits. -/
theorem ofNat_div_mod {n : Nat} {d : BitVec w} (hd : d ≠ 0#w) (hq : n / d.toNat < 2 ^ w) :
    n = (BitVec.ofNat w (n / d.toNat)).toNat * d.toNat + (BitVec.ofNat w (n % d.toNat)).toNat ∧
      (BitVec.ofNat w (n % d.toNat)).toNat < d.toNat := by
  have hpos : 0 < d.toNat := Nat.pos_of_ne_zero fun e => hd (BitVec.eq_of_toNat_eq e)
  have hr : n % d.toNat < d.toNat := Nat.mod_lt n hpos
  rw [BitVec.toNat_ofNat, BitVec.toNat_ofNat, Nat.mod_eq_of_lt hq, Nat.mod_eq_of_lt (hr.trans d.isLt)]
  exact ⟨(Nat.div_add_mod' n d.toNat).symm, hr⟩

theorem tmod_eq_zero_or_neg_iff (n d : Int) : n.tmod d = 0 ∨ (n.tmod d < 0 ↔ n < 0) := by
  have hs := Int.sign_tmod n d
  split at hs
  · exact .inl (Int.sign_eq_zero_iff_zero.1 hs)
  · exact .inr (by rw [← Int.sign_eq_neg_one_iff_neg, hs, Int.sign_eq_neg_one_iff_neg])

theorem ofInt_tdiv_tmod {n : Int} {d : BitVec w} (hw : 0 < w) (hd : d ≠ 0#w) (hlo : -2 ^ (w - 1) ≤ n.tdiv d.toInt)
    (hhi : n.tdiv d.toInt < 2 ^ (w - 1)) :
    n = (BitVec.ofInt w (n.tdiv d.toInt)).toInt * d.toInt + (BitVec.ofInt w (n.tmod d.toInt)).toInt ∧
      (BitVec.ofInt w (n.tmod d.toInt)).toInt.natAbs < d.toInt.natAbs ∧
      ((BitVec.ofInt w (n.tmod d.toInt)).toInt = 0 ∨ ((BitVec.ofInt w (n.tmod d.toInt)).toInt < 0 ↔ n < 0)) := by
  have hd0 : d.toInt ≠ 0 := fun e => hd (BitVec.eq_of_toInt_eq (by simpa using e))
  have hr : (n.tmod d.toInt).natAbs < d.toInt.natAbs := by
    rw [Int.natAbs_tmod]
    exact Nat.mod_lt _ (Int.natAbs_pos.2 hd0)
  have hdlo := BitVec.le_toInt d
  have hdhi := BitVec.toInt_lt (x := d)
  rw [BitVec.toInt_ofInt_eq_self hw hlo hhi, BitVec.toInt_ofInt_eq_self hw (by omega) (by omega)]
  exact ⟨(Int.tdiv_mul_add_tmod n d.toInt).symm, hr, tmod_eq_zero_or_neg_iff n d.toInt⟩

theorem dxAx_readLoc16 (l : Loc16) (s : State) : dxAx (readLoc16 l s).2 = dxAx s := by simp [dxAx]

theorem idivMin_byte (m : CpuMode) : idivMin 8 m = if m = .v20 then -128 else -127 := by cases m <;> decide

theorem idivMin_word (m : CpuMode) : idivMin 16 m = if m = .v20 then -32768 else -32767 := by cases m <;> decide

/-- DIV without a fault. -/
theorem divEb_quotient {e : RM Reg8} (hd : value8 e s ≠ 0#8) (hq : s.gpr.ax.toNat / (value8 e s).toNat ≤ 0xFF) :
    ∃ q r : Byte, exec (.divEb e) s = .next (quotient8 q r (readLoc8 (loc8 e s) s).2) ∧
      s.gpr.ax.toNat = q.toNat * (value8 e s).toNat + r.toNat ∧ r.toNat < (value8 e s).toNat := by
  have hd0 : (value8 e s).toNat ≠ 0 := fun h => hd (BitVec.eq_of_toNat_eq h)
  refine ⟨_, _, ?_, ofNat_div_mod hd (Nat.lt_succ_of_le hq)⟩
  show execDivEb e s = _
  simp only [execDivEb, readLoc8_gpr]
  exact (if_neg hd0).trans (if_neg (Nat.not_lt.2 hq))

theorem divEv_quotient {e : RM Reg16} (hd : value16 e s ≠ 0#16) (hq : (dxAx s).toNat / (value16 e s).toNat ≤ 0xFFFF) :
    ∃ q r : Word, exec (.divEv e) s = .next (quotient16 q r (readLoc16 (loc16 e s) s).2) ∧
      (dxAx s).toNat = q.toNat * (value16 e s).toNat + r.toNat ∧ r.toNat < (value16 e s).toNat := by
  have hd0 : (value16 e s).toNat ≠ 0 := fun h => hd (BitVec.eq_of_toNat_eq h)
  refine ⟨_, _, ?_, ofNat_div_mod hd (Nat.lt_succ_of_le hq)⟩
  show execDivEv e s = _
  simp only [execDivEv, dxAx_readLoc16]
  exact (if_neg hd0).trans (if_neg (Nat.not_lt.2 hq))

/-- IDIV without a fault; the least quotient is the mode's (92 D14). -/
theorem idivEb_quotient {e : RM Reg8} (hd : value8 e s ≠ 0#8) (hhi : s.gpr.ax.toInt.tdiv (value8 e s).toInt ≤ 127)
    (hlo : (if s.cpuMode = .v20 then -128 else -127) ≤ s.gpr.ax.toInt.tdiv (value8 e s).toInt) :
    ∃ q r : Byte, exec (.idivEb e) s = .next (quotient8 q r (readLoc8 (loc8 e s) s).2) ∧
      s.gpr.ax.toInt = q.toInt * (value8 e s).toInt + r.toInt ∧ r.toInt.natAbs < (value8 e s).toInt.natAbs ∧
      (r.toInt = 0 ∨ (r.toInt < 0 ↔ s.gpr.ax.toInt < 0)) := by
  have hd0 : (value8 e s).toInt ≠ 0 := fun h => hd (BitVec.eq_of_toInt_eq h)
  have hmin : idivMin 8 s.cpuMode ≤ s.gpr.ax.toInt.tdiv (value8 e s).toInt := by rwa [idivMin_byte]
  refine ⟨_, _, ?_, ofInt_tdiv_tmod (by decide) hd (by split at hlo <;> omega) (Int.lt_add_one_of_le hhi)⟩
  show execIdivEb e s = _
  simp only [execIdivEb, readLoc8_gpr, readLoc8_cpuMode]
  exact (if_neg hd0).trans (if_neg (not_or.2 ⟨Int.not_lt.2 hhi, Int.not_lt.2 hmin⟩))

theorem idivEv_quotient {e : RM Reg16} (hd : value16 e s ≠ 0#16) (hhi : (dxAx s).toInt.tdiv (value16 e s).toInt ≤ 32767)
    (hlo : (if s.cpuMode = .v20 then -32768 else -32767) ≤ (dxAx s).toInt.tdiv (value16 e s).toInt) :
    ∃ q r : Word, exec (.idivEv e) s = .next (quotient16 q r (readLoc16 (loc16 e s) s).2) ∧
      (dxAx s).toInt = q.toInt * (value16 e s).toInt + r.toInt ∧ r.toInt.natAbs < (value16 e s).toInt.natAbs ∧
      (r.toInt = 0 ∨ (r.toInt < 0 ↔ (dxAx s).toInt < 0)) := by
  have hd0 : (value16 e s).toInt ≠ 0 := fun h => hd (BitVec.eq_of_toInt_eq h)
  have hmin : idivMin 16 s.cpuMode ≤ (dxAx s).toInt.tdiv (value16 e s).toInt := by rwa [idivMin_word]
  refine ⟨_, _, ?_, ofInt_tdiv_tmod (by decide) hd (by split at hlo <;> omega) (Int.lt_add_one_of_le hhi)⟩
  show execIdivEv e s = _
  simp only [execIdivEv, dxAx_readLoc16, readLoc16_cpuMode]
  exact (if_neg hd0).trans (if_neg (not_or.2 ⟨Int.not_lt.2 hhi, Int.not_lt.2 hmin⟩))

end multiplyDivide

section decimalAdjust

variable {s : State}

/-! ### DAA and DAS (41_arithmetic.md R290, R291) -/

theorem lowNibbleOver_eq (al : Byte) (af : Bool) : lowNibbleOver al af = (decide (9 < al.toNat % 16) || af) := by
  rw [lowNibbleOver, BitVec.toNat_and]
  exact congrArg (fun k => decide (9 < k) || af) (Nat.and_two_pow_sub_one_eq_mod al.toNat 4)

theorem toNat_and_highNibble (b : Byte) : (b &&& 0xF0#8).toNat = b.toNat / 16 * 16 := by
  have hb := b.isLt
  have hfield := and_field_eq b.toNat 4 4
  rw [BitVec.toNat_and]
  refine hfield.trans ?_
  omega

/-- The second test of DAA reads AL and CF as the first step leaves them; it comes to a test of the old AL and CF. -/
theorem daaHigh_unadjusted {al : Byte} (h : al.toNat % 16 ≤ 9) : 0x90 < (al &&& 0xF0#8).toNat ↔ 0x99 < al.toNat := by
  rw [toNat_and_highNibble]
  omega

theorem daaHigh_adjusted (al : Byte) : 0x90 < ((al + 6#8) &&& 0xF0#8).toNat ∨ 256 ≤ al.toNat + 6 ↔ 0x99 < al.toNat := by
  have hal := al.isLt
  rw [toNat_and_highNibble, BitVec.toNat_add, BitVec.toNat_ofNat]
  omega

theorem daaAdjust_eq {al : Byte} {af cf low high : Bool} (hlow : low = (decide (9 < al.toNat % 16) || af))
    (hhigh : high = (decide (0x99 < al.toNat) || cf)) : daaAdjust al af cf =
      ⟨al + (if low then 0x06#8 else 0#8) + (if high then 0x60#8 else 0#8), low, high⟩ := by
  unfold daaAdjust
  rw [lowNibbleOver_eq, ← hlow]
  cases low with
  | false =>
    have hnibble : al.toNat % 16 ≤ 9 := by
      by_contra h
      simp [Nat.lt_of_not_le h] at hlow
    have htest : (decide ((al &&& 0xF0#8).toNat > 0x90) || cf) = high := by
      rw [hhigh, decide_eq_decide.2 (daaHigh_unadjusted hnibble)]
    simp only [Bool.false_eq_true, if_false, htest]
    cases high <;> simp
  | true =>
    have htest : (decide (((al + 6#8) &&& 0xF0#8).toNat > 0x90) || (cf || decide (al.toNat + 6 ≥ 256))) = high := by
      rw [hhigh, ← decide_eq_decide.2 (daaHigh_adjusted al), Bool.decide_or, Bool.or_left_comm, Bool.or_comm cf]
    simp only [if_true, htest]
    cases high <;> simp

theorem dasAdjust_eq {al : Byte} {af cf low high : Bool} (hlow : low = (decide (9 < al.toNat % 16) || af))
    (hhigh : high = (decide (0x99 < al.toNat) || cf)) : dasAdjust al af cf =
      ⟨al - (if low then 0x06#8 else 0#8) - (if high then 0x60#8 else 0#8), low, high || low && decide (al.toNat < 6)⟩ := by
  have htest : (decide (al.toNat > 0x99) || cf) = high := hhigh.symm
  unfold dasAdjust
  rw [lowNibbleOver_eq, ← hlow, htest]
  cases high with
  | false =>
    obtain ⟨-, rfl⟩ := Bool.or_eq_false_iff.1 htest
    cases low <;> simp
  | true => cases low <;> simp

theorem putAdjusted_frame (a : Adjusted) (s : State) :
    let t := putAdjusted a s
    SameSystem s t ∧ t.ip = s.ip ∧ PutByte (.reg .al) a.al s t ∧ flag .aux t = a.af ∧ flag .carry t = a.cf ∧
      SzpOf (reg8 .al t) t ∧ SameFlagsBut [.overflow, .sign, .zero, .aux, .parity, .carry] s t := by
  have htame := tame_putAdjusted a (.refl s)
  have hal : reg8 .al (putAdjusted a s) = a.al := by simp [putAdjusted]
  have hflag {f : Flag} (hf : f ≠ .overflow) :
      flag f (putAdjusted a s) = flagOf f (szp a.al (putFlag .carry a.cf (putFlag .aux a.af s.flags))) :=
    undefFlags_flag _ _ (by simpa using hf)
  have hput : PutByte (.reg .al) a.al s (putAdjusted a s) :=
    (setReg8_put .al a.al s).congr rfl rfl rfl (fun _ => rfl) (by simp [putAdjusted]) (by simp [putAdjusted])
      (by simp [putAdjusted])
  refine ⟨htame.1, by simp [putAdjusted], hput, ?_, ?_, ⟨?_, ?_, ?_⟩, htame.sameFlagsBut (by decide)⟩
  all_goals rw [hflag (by decide)]
  · simp [szp]
  · simp [szp]
  · rw [hal]; exact szp_sign _ _
  · rw [hal]; exact szp_zero _ _
  · rw [hal]; exact szp_parity _ _

/-! ### AAA and AAS (41_arithmetic.md R292, R293) -/

/-- The adjust by `da` and `dh`, done or not by the test of the old AL and AF. -/
theorem asciiAdjust_frame (da dh : Byte) {low : Bool} (hlow : low = (decide (9 < (reg8 .al s).toNat % 16) || flag .aux s)) :
    let t := asciiAdjust da dh s
    SameSystem s t ∧ t.ip = s.ip ∧ t.seg = s.seg ∧ t.mem = s.mem ∧ SameRegsBut [.ax] s t ∧
      reg8 .al t = (reg8 .al s + (if low then da else 0#8)) &&& 0x0F#8 ∧
      reg8 .ah t = reg8 .ah s + (if low then dh else 0#8) ∧ flag .aux t = low ∧ flag .carry t = low ∧
      SameFlagsBut [.overflow, .sign, .zero, .aux, .parity, .carry] s t := by
  have hadjust : Computed [.ax] s (asciiAdjust da dh s) := by
    have hcorrected : Computed [.ax] s (if lowNibbleOver (reg8 .al s) (flag .aux s) then
        setReg8 .ah (reg8 .ah s + dh) (setReg8 .al (reg8 .al s + da) s) else s) := by
      split
      · exact ((Computed.refl _ s).setReg8 (by decide) _).setReg8 (by decide) _
      · exact .refl _ s
    exact (((hcorrected.setReg8 (by decide) _).setFlag (by decide) _).setFlag (by decide) _).undefFlags (by decide)
  rw [← lowNibbleOver_eq] at hlow
  have hal : reg8 .al (asciiAdjust da dh s) = (reg8 .al s + (if low then da else 0#8)) &&& 0x0F#8 := by
    rw [hlow]; unfold asciiAdjust; split <;> simp [*]
  have hah : reg8 .ah (asciiAdjust da dh s) = reg8 .ah s + (if low then dh else 0#8) := by
    rw [hlow]; unfold asciiAdjust; split <;> simp [*]
  refine ⟨hadjust.tame.1, hadjust.ip, hadjust.seg, hadjust.mem, hadjust.regs, hal, hah, ?_, ?_,
    hadjust.tame.sameFlagsBut (by decide)⟩
  all_goals
    unfold asciiAdjust
    rw [undefFlags_flag _ _ (by decide), hlow]
    simp

/-! ### AAM and AAD (41_arithmetic.md R294, R295) -/

theorem aamFlags_szp (s : State) : SzpOf (reg8 .al (aamFlags s)) (aamFlags s) := by
  have hal : reg8 .al (aamFlags s) = reg8 .al s := by simp [aamFlags]
  have hflag {f : Flag} (hf : f ∉ [.overflow, .aux, .carry]) : flag f (aamFlags s) = flagOf f (szp (reg8 .al s) s.flags) :=
    undefFlags_flag _ _ hf
  rw [hal]
  exact ⟨(hflag (by decide)).trans (szp_sign _ _), (hflag (by decide)).trans (szp_zero _ _),
    (hflag (by decide)).trans (szp_parity _ _)⟩

theorem Computed.aamFlags {t : State} {rs : List Reg16} (h : Computed rs s t) : Computed rs s (aamFlags t) :=
  h.trans ⟨tame_aamFlags (.refl t), by simp [Machine.aamFlags], by simp [Machine.aamFlags], by simp [Machine.aamFlags],
    sameRegsBut_of_gpr_eq rs (by simp [Machine.aamFlags])⟩

@[simp] theorem reg8_aamFlags (r : Reg8) (s : State) : reg8 r (aamFlags s) = reg8 r s := by simp [aamFlags]

/-- AAM with a base other than 0. -/
theorem exec_aamIb {v : Byte} (hv : v ≠ 0#8) (s : State) :
    exec (.aamIb v) s = .next (aamFlags (setReg8 .al (reg8 .al s % v) (setReg8 .ah (reg8 .al s / v) s))) := if_neg hv

theorem aam_frame (v : Byte) (s : State) :
    let t := aamFlags (setReg8 .al (reg8 .al s % v) (setReg8 .ah (reg8 .al s / v) s))
    SameSystem s t ∧ t.ip = s.ip ∧ t.seg = s.seg ∧ t.mem = s.mem ∧ SameRegsBut [.ax] s t ∧
      (reg8 .al t).toNat = (reg8 .al s).toNat % v.toNat ∧ (reg8 .ah t).toNat = (reg8 .al s).toNat / v.toNat ∧
      SzpOf (reg8 .al t) t ∧ SameFlagsBut [.overflow, .sign, .zero, .aux, .parity, .carry] s t := by
  have h : Computed [.ax] s (aamFlags (setReg8 .al (reg8 .al s % v) (setReg8 .ah (reg8 .al s / v) s))) :=
    (((Computed.refl _ s).setReg8 (by decide) _).setReg8 (by decide) _).aamFlags
  exact ⟨h.tame.1, h.ip, h.seg, h.mem, h.regs, by simp, by simp, aamFlags_szp _, h.tame.sameFlagsBut (by decide)⟩

theorem aad_frame (v : Byte) (s : State) :
    let t := aamFlags (setReg8 .ah 0#8 (setReg8 .al (reg8 .al s + reg8 .ah s * v) s))
    SameSystem s t ∧ t.ip = s.ip ∧ t.seg = s.seg ∧ t.mem = s.mem ∧ SameRegsBut [.ax] s t ∧
      (reg8 .al t).toNat = ((reg8 .al s).toNat + (reg8 .ah s).toNat * v.toNat) % 256 ∧ reg8 .ah t = 0#8 ∧
      SzpOf (reg8 .al t) t ∧ SameFlagsBut [.overflow, .sign, .zero, .aux, .parity, .carry] s t := by
  have h : Computed [.ax] s (aamFlags (setReg8 .ah 0#8 (setReg8 .al (reg8 .al s + reg8 .ah s * v) s))) :=
    (((Computed.refl _ s).setReg8 (by decide) _).setReg8 (by decide) _).aamFlags
  exact ⟨h.tame.1, h.ip, h.seg, h.mem, h.regs, by simp [BitVec.toNat_add, BitVec.toNat_mul], by simp, aamFlags_szp _,
    h.tame.sameFlagsBut (by decide)⟩

end decimalAdjust

/-- Settles O19, by the 32-bit sum and difference: each mask reads one bit of them, or the bits above the operand's. -/
theorem addAndSubFlagsSayTheExactResult : Obligations.AddAndSubFlagsSayTheExactResult := by
  constructor
  · intro n a b c fl hn
    obtain ⟨hs, hz, hp⟩ := addFlags_szp a b c fl
    exact ⟨toNat_addFlags a b c fl (by omega), carry_addFlags a b c fl hn, overflow_addFlags a b c fl hn,
      aux_addFlags a b c fl hn, hs, hz, hp, fun j hj => addFlags_bit a b c fl (isStatusBit_eq_false hj)⟩
  · intro n a b c fl hn
    obtain ⟨hs, hz, hp⟩ := subFlags_szp a b c fl
    exact ⟨toNat_subFlags a b c fl (by omega), carry_subFlags a b c fl hn, overflow_subFlags a b c fl hn,
      aux_subFlags a b c fl hn, hs, hz, hp, fun j hj => subFlags_bit a b c fl (isStatusBit_eq_false hj)⟩

/-- Settles O20: CF is put back last, so every other flag is that of adding or subtracting 1. -/
theorem incThenDecIsIdentityAndKeepsCarry : Obligations.IncThenDecIsIdentityAndKeepsCarry := by
  intro n a fl hn
  have hn' : n ≤ 32 := by omega
  refine ⟨incFlags_fst hn' a fl, decFlags_fst hn' a fl, ?inverse, ?incCarry, ?decCarry, fun f hf => ?others⟩
  case inverse => rw [incFlags_fst hn', decFlags_fst hn', BitVec.add_sub_cancel]
  case incCarry => simp [incFlags]
  case decCarry => simp [decFlags]
  case others => simp [incFlags, decFlags, hf]

/-- Settles O21: OF and CF are written first, then SF, ZF and PF, and no other bit. -/
theorem logicFlagsKeepAuxCarry : Obligations.LogicFlagsKeepAuxCarry := by
  intro n r fl
  obtain ⟨hs, hz, hp⟩ := logicFlags_szp r fl
  exact ⟨by simp [logicFlags, szp], by simp [logicFlags, szp], hs, hz, hp.trans (parity_setWidth r), parity_setWidth r,
    fun j hj => getLsbD_logicFlags r fl hj⟩

/-- Settles O36: each of the ten forms is one call of the ALU on the locations its row names. -/
theorem aluRows : Obligations.AluRows := by
  refine ⟨fun s op e g v hw => ?bytes, fun s op e g v b hw => ?words, fun n a b fl => ?helpers⟩
  case bytes =>
    exact ⟨⟨_, exec_aluRmReg8 op e g s, alu8_ofReg_done op hw _ g⟩, ⟨_, exec_aluRegRm8 op s g e, alu8_done hw op _ _⟩,
      ⟨_, exec_aluAccImm8 op s v, aluImm8_done hw op _ v, aluImm8_reg_quiet op s _ v⟩,
      ⟨_, exec_aluRmImm8 op s e v, aluImm8_done hw op _ v⟩, ⟨_, exec_aluRmImm8Alias op s e v, aluImm8_done hw op _ v⟩⟩
  case words =>
    exact ⟨⟨_, exec_aluRmReg16 op s e g, alu16_ofReg_done op hw _ g⟩,
      ⟨_, exec_aluRegRm16 op s g e, alu16_done hw op _ _⟩,
      ⟨_, exec_aluAccImm16 op s v, aluImm16_done hw op _ v, aluImm16_reg_quiet op s _ v⟩,
      ⟨_, exec_aluRmImm16 op s e v, aluImm16_done hw op _ v⟩, ⟨_, exec_aluRmImmSx op s e b, aluImm16_done hw op _ _⟩⟩
  case helpers => exact ⟨rfl, rfl, rfl, rfl, rfl, rfl, rfl, rfl⟩

/-- Settles O37: each row is a read-modify-write, its value given by the width of the flag helper alone. -/
theorem unaryRows : Obligations.UnaryRows := by
  intro s e f r hw
  have hbyte : 8 ≤ 32 := by decide
  have hword : 16 ≤ 32 := by decide
  exact ⟨⟨_, rfl, modify16_reg_value hw (incFlags_fst hword) r⟩,
    ⟨_, rfl, modify16_reg_value hw (decFlags_fst hword) r⟩,
    ⟨_, rfl, modify8_value hw (incFlags_fst hbyte) e⟩, ⟨_, rfl, modify8_value hw (decFlags_fst hbyte) e⟩,
    ⟨_, rfl, modify8_value hw (negFlags_fst hbyte) e⟩, ⟨_, rfl, modify8_done hw _ (loc8 e s)⟩,
    ⟨_, rfl, modify16_value hw (incFlags_fst hword) f⟩, ⟨_, rfl, modify16_value hw (decFlags_fst hword) f⟩,
    ⟨_, rfl, modify16_value hw (negFlags_fst hword) f⟩, ⟨_, rfl, modify16_done hw _ (loc16 f s)⟩⟩

/-- Settles O39: each row writes a product that its width holds, and one test of it to CF and OF. -/
theorem multiplyRows : Obligations.MultiplyRows := by
  intro s e f
  refine ⟨?mulByte, ?mulWord, ?imulByte, ?imulWord⟩
  case mulByte =>
    obtain ⟨p, hexec, hp⟩ := mulEb_product e s
    obtain ⟨hsystem, hip, hseg, hmem, hregs, hax, hcf, hof, hflags⟩ := mulFlags_ax_frame (loc8 e s) (hiByte p ≠ 0#8) p s
    have hhigh := congrArg (fun v => decide (hiByte v ≠ 0#8)) hax
    exact ⟨_, hexec, hsystem, hip, hseg, hmem, hregs, by rw [hax, hp], hcf.trans hhigh.symm, hof.trans hhigh.symm,
      hflags⟩
  case mulWord =>
    obtain ⟨p, hexec, hp⟩ := mulEv_product f s
    obtain ⟨hsystem, hip, hseg, hmem, hregs, hpair, hdx, hcf, hof, hflags⟩ :=
      mulFlags_dxAx_frame (loc16 f s) (p.extractLsb' 16 16 ≠ 0#16) p s
    exact ⟨_, hexec, hsystem, hip, hseg, hmem, hregs, by rw [← toNat_makeAddress, makeAddress, hpair, hp], by rw [hcf, hdx],
      by rw [hof, hdx], hflags⟩
  case imulByte =>
    obtain ⟨p, hexec, hp⟩ := imulEb_product e s
    obtain ⟨hsystem, hip, hseg, hmem, hregs, hax, hcf, hof, hflags⟩ :=
      mulFlags_ax_frame (loc8 e s) (p.toInt < -128 ∨ 127 < p.toInt) p s
    exact ⟨_, hexec, hsystem, hip, hseg, hmem, hregs, by rw [hax, hp], by rw [hcf, hax], hof.trans hcf.symm, hflags⟩
  case imulWord =>
    obtain ⟨p, hexec, hp⟩ := imulEv_product f s
    obtain ⟨hsystem, hip, hseg, hmem, hregs, hpair, -, hcf, hof, hflags⟩ :=
      mulFlags_dxAx_frame (loc16 f s) (p.toInt < -32768 ∨ 32767 < p.toInt) p s
    exact ⟨_, hexec, hsystem, hip, hseg, hmem, hregs, by rw [hpair, hp], by rw [hcf, hpair], hof.trans hcf.symm, hflags⟩

/-- Settles O40: quotient and remainder fit their registers, so they are the exact ones. -/
theorem divideRows : Obligations.DivideRows := by
  intro s e f
  refine ⟨fun hd hq => ?divByte, fun hd hq => ?divWord, fun hd hhi hlo => ?idivByte, fun hd hhi hlo => ?idivWord⟩
  case divByte =>
    obtain ⟨q, r, hexec, hn, hr⟩ := divEb_quotient hd hq
    obtain ⟨hsystem, hip, hseg, hmem, hregs, hal, hah, hflags⟩ := quotient8_frame (loc8 e s) q r s
    exact ⟨_, hexec, hsystem, hip, hseg, hmem, hregs, by rw [hal, hah, hn], by rwa [hah], hflags⟩
  case divWord =>
    obtain ⟨q, r, hexec, hn, hr⟩ := divEv_quotient hd hq
    obtain ⟨hsystem, hip, hseg, hmem, hregs, hax, hdx, hflags⟩ := quotient16_frame (loc16 f s) q r s
    exact ⟨_, hexec, hsystem, hip, hseg, hmem, hregs, by rw [hax, hdx]; exact hn, by rwa [hdx], hflags⟩
  case idivByte =>
    obtain ⟨q, r, hexec, hn, hr, hsign⟩ := idivEb_quotient hd hhi hlo
    obtain ⟨hsystem, hip, hseg, hmem, hregs, hal, hah, hflags⟩ := quotient8_frame (loc8 e s) q r s
    exact ⟨_, hexec, hsystem, hip, hseg, hmem, hregs, by rw [hal, hah, hn], by rwa [hah], by rwa [hah], hflags⟩
  case idivWord =>
    obtain ⟨q, r, hexec, hn, hr, hsign⟩ := idivEv_quotient hd hhi hlo
    obtain ⟨hsystem, hip, hseg, hmem, hregs, hax, hdx, hflags⟩ := quotient16_frame (loc16 f s) q r s
    exact ⟨_, hexec, hsystem, hip, hseg, hmem, hregs, by rw [hax, hdx]; exact hn, by rwa [hdx], by rwa [hdx], hflags⟩

/-- Settles O42: the adjusts by their tests on the old AL, AAM and AAD by the value they put in AX. -/
theorem decimalAdjustRows : Obligations.DecimalAdjustRows := by
  rintro s _ _ low high v rfl rfl hlow hhigh
  refine ⟨⟨_, rfl, ?daa⟩, ⟨_, rfl, ?das⟩, ⟨_, rfl, asciiAdjust_frame 6#8 1#8 hlow⟩, ⟨_, rfl, ?aas⟩,
    fun hv => ⟨_, exec_aamIb hv s, aam_frame v s⟩, ⟨_, rfl, aad_frame v s⟩⟩
  case daa =>
    rw [daaAdjust_eq hlow hhigh]
    exact putAdjusted_frame _ s
  case das =>
    rw [dasAdjust_eq hlow hhigh]
    exact putAdjusted_frame _ s
  case aas =>
    have hneg (x c : Byte) : x - (if low then c else 0#8) = x + (if low then -c else 0#8) := by
      cases low <;> simp [BitVec.sub_eq_add_neg]
    rw [hneg, hneg]
    exact asciiAdjust_frame (-6#8) (-1#8) hlow

end Sys2Proof.Machine

namespace Sys2Proof.Machine

open Rows

section rotations

variable {n : Nat} (x : BitVec n)

/-! ### Rotations bit by bit, the positions counted modulo the width -/

theorem rotateLeft_add (j k : Nat) : x.rotateLeft (j + k) = (x.rotateLeft j).rotateLeft k := by
  refine BitVec.eq_of_getMsbD_eq fun i hi => ?_
  have hlt : (k + i) % n < n := Nat.mod_lt _ (by omega)
  simp only [BitVec.getMsbD_rotateLeft, hi, hlt, decide_true, Bool.true_and, Nat.add_mod_mod, Nat.add_assoc]

theorem getLsbD_rotateRight_mod (r : Nat) {i : Nat} (hi : i < n) :
    (x.rotateRight r).getLsbD i = x.getLsbD ((r + i) % n) := by
  have hr : r % n < n := Nat.mod_lt _ (by omega)
  rw [BitVec.getLsbD_rotateRight, ← Nat.mod_add_mod]
  generalize r % n = r at hr
  by_cases h : i < n - r
  · rw [Nat.mod_eq_of_lt (by omega), decide_eq_true h, cond_true]
  · rw [Nat.mod_eq_sub_mod (by omega), Nat.mod_eq_of_lt (by omega), decide_eq_false h, cond_false, decide_eq_true hi,
      Bool.true_and, show i - (n - r) = r + i - n by omega]

theorem rotateRight_add (j k : Nat) : x.rotateRight (j + k) = (x.rotateRight j).rotateRight k := by
  refine BitVec.eq_of_getLsbD_eq fun i hi => ?_
  have hlt : (k + i) % n < n := Nat.mod_lt _ (by omega)
  rw [getLsbD_rotateRight_mod _ _ hi, getLsbD_rotateRight_mod _ _ hi, getLsbD_rotateRight_mod _ _ hlt, Nat.add_mod_mod,
    Nat.add_assoc]

theorem rotateLeft_zero : x.rotateLeft 0 = x := by
  refine BitVec.eq_of_getMsbD_eq fun i hi => ?_
  simp [BitVec.getMsbD_rotateLeft, hi, Nat.mod_eq_of_lt]

theorem rotateRight_zero : x.rotateRight 0 = x := by
  refine BitVec.eq_of_getLsbD_eq fun i hi => ?_
  rw [getLsbD_rotateRight_mod _ _ hi, Nat.zero_add, Nat.mod_eq_of_lt hi]

theorem rotateLeft_width : x.rotateLeft n = x := by
  rw [← BitVec.rotateLeft_mod_eq_rotateLeft, Nat.mod_self, rotateLeft_zero]

theorem rotateRight_width : x.rotateRight n = x := by
  rw [← BitVec.rotateRight_mod_eq_rotateRight, Nat.mod_self, rotateRight_zero]

/-! ### Rotations by one position -/

theorem getLsbD_rotateLeft_one (hn : 1 < n) {i : Nat} (hi : i < n) :
    (x.rotateLeft 1).getLsbD i = if i = 0 then x.msb else x.getLsbD (i - 1) := by
  rw [BitVec.getLsbD_rotateLeft, Nat.mod_eq_of_lt hn]
  by_cases h : i = 0 <;> simp [h, hi, BitVec.msb_eq_getLsbD_last]

theorem getLsbD_rotateRight_one (hn : 1 < n) {i : Nat} (hi : i < n) :
    (x.rotateRight 1).getLsbD i = if i = n - 1 then x.getLsbD 0 else x.getLsbD (i + 1) := by
  rw [getLsbD_rotateRight_mod _ _ hi, Nat.add_comm]
  by_cases h : i = n - 1
  · simp [h, show n - 1 + 1 = n by omega]
  · simp [h, Nat.mod_eq_of_lt (show i + 1 < n by omega)]

theorem rotateRight_rotateLeft_one (hn : 1 < n) : (x.rotateLeft 1).rotateRight 1 = x := by
  refine BitVec.eq_of_getLsbD_eq fun i hi => ?_
  rw [getLsbD_rotateRight_one _ hn hi]
  by_cases h : i = n - 1
  · rw [if_pos h, getLsbD_rotateLeft_one _ hn (by omega), if_pos rfl, h, BitVec.msb_eq_getLsbD_last]
  · rw [if_neg h, getLsbD_rotateLeft_one _ hn (by omega), if_neg (by omega), Nat.add_sub_cancel]

end rotations

section shiftTimes

variable {n : Nat} (v : BitVec n) (cf : Bool)

/-! ### One bit position (42_logic_shift.md R332 to R338) -/

/-- The bit `b` comes in at the bottom. -/
theorem getLsbD_shiftIn_low (b : Bool) {i : Nat} (hi : i < n) :
    ((v <<< 1) ||| (BitVec.ofBool b).setWidth n).getLsbD i = if i = 0 then b else v.getLsbD (i - 1) := by
  by_cases h : i = 0
  · simp [h, show 0 < n by omega]
  · simp [h, hi, show i - 1 < n by omega]

/-- The bit `b` comes in at the top. -/
theorem getLsbD_shiftIn_high (b : Bool) {i : Nat} (hi : i < n) :
    ((v >>> 1) ||| ((BitVec.ofBool b).setWidth n <<< (n - 1))).getLsbD i =
      if i = n - 1 then b else v.getLsbD (i + 1) := by
  by_cases h : i = n - 1
  · have hout : v.getLsbD (1 + i) = false := BitVec.getLsbD_of_ge _ _ (by omega)
    rw [BitVec.getLsbD_or, BitVec.getLsbD_ushiftRight, hout]
    simp [h, show 0 < n by omega]
  · simp [h, hi, show i < n - 1 by omega, Nat.add_comm]

theorem shiftOnce_sar : shiftOnce .sar v cf = (v.sshiftRight 1, v.getLsbD 0) := by
  refine Prod.ext (BitVec.eq_of_getLsbD_eq fun i hi => ?_) rfl
  rw [shiftOnce, getLsbD_shiftIn_high _ _ hi, BitVec.getLsbD_sshiftRight]
  by_cases h : i = n - 1
  · simp [h, show ¬ n ≤ n - 1 by omega, show ¬ 1 + (n - 1) < n by omega]
  · rw [if_neg h, Nat.add_comm i, if_pos (by omega), decide_eq_false (by omega), Bool.not_false, Bool.true_and]

theorem shiftOnce_rol (hn : 1 < n) : shiftOnce .rol v cf = (v.rotateLeft 1, v.msb) := by
  refine Prod.ext (BitVec.eq_of_getLsbD_eq fun i hi => ?_) rfl
  rw [shiftOnce, getLsbD_shiftIn_low _ _ hi, getLsbD_rotateLeft_one _ hn hi]

theorem shiftOnce_ror (hn : 1 < n) : shiftOnce .ror v cf = (v.rotateRight 1, v.getLsbD 0) := by
  refine Prod.ext (BitVec.eq_of_getLsbD_eq fun i hi => ?_) rfl
  rw [shiftOnce, getLsbD_shiftIn_high _ _ hi, getLsbD_rotateRight_one _ hn hi]

/-- The `n + 1` bits that RCL and RCR rotate, the carry on top (42_logic_shift.md R334, R335). -/
def carryAndValue (r : BitVec n × Bool) : BitVec (1 + n) := BitVec.ofBool r.2 ++ r.1

theorem getLsbD_carryAndValue (r : BitVec n × Bool) (i : Nat) :
    (carryAndValue r).getLsbD i = if i = n then r.2 else r.1.getLsbD i := by
  rw [carryAndValue, BitVec.getLsbD_append, BitVec.getLsbD_ofBool]
  obtain h | h | h := lt_trichotomy i n
  · rw [if_pos h, if_neg (by omega)]
  · simp [h]
  · rw [if_neg (by omega), if_neg (by omega), BitVec.getLsbD_of_ge _ _ (by omega)]
    simp [show i - n ≠ 0 by omega]

theorem msb_carryAndValue (r : BitVec n × Bool) : (carryAndValue r).msb = r.2 := by
  rw [BitVec.msb_eq_getLsbD_last, getLsbD_carryAndValue, if_pos (by omega)]

theorem carryAndValue_injective : Function.Injective (carryAndValue (n := n)) := by
  intro r q h
  refine Prod.ext (BitVec.eq_of_getLsbD_eq fun i hi => ?_) ?_
  · simpa [getLsbD_carryAndValue, show i ≠ n by omega] using congrArg (·.getLsbD i) h
  · rw [← msb_carryAndValue, h, msb_carryAndValue]

theorem carryAndValue_rcl (hn : 0 < n) :
    carryAndValue (shiftOnce .rcl v cf) = (carryAndValue (v, cf)).rotateLeft 1 := by
  refine BitVec.eq_of_getLsbD_eq fun i hi => ?_
  rw [getLsbD_rotateLeft_one _ (by omega) hi, msb_carryAndValue, getLsbD_carryAndValue, getLsbD_carryAndValue,
    if_neg (show i - 1 ≠ n by omega), shiftOnce]
  by_cases h : i = n
  · rw [if_pos h, if_neg (by omega), h, BitVec.msb_eq_getLsbD_last]
  · rw [if_neg h, getLsbD_shiftIn_low _ _ (by omega)]

theorem carryAndValue_rcr (hn : 0 < n) :
    carryAndValue (shiftOnce .rcr v cf) = (carryAndValue (v, cf)).rotateRight 1 := by
  refine BitVec.eq_of_getLsbD_eq fun i hi => ?_
  rw [getLsbD_rotateRight_one _ (by omega) hi, getLsbD_carryAndValue, getLsbD_carryAndValue, getLsbD_carryAndValue,
    if_neg hn.ne, Nat.add_sub_cancel_left, shiftOnce]
  by_cases h : i = n
  · rw [if_pos h, if_pos h]
  · rw [if_neg h, if_neg h, getLsbD_shiftIn_high _ _ (by omega)]
    exact if_congr (by omega) rfl rfl

/-! ### `repeat cnt times` (42_logic_shift.md R330) -/

/-- The last position, after `k` of them. -/
theorem shiftTimes_succ (op : ShiftOp) (k : Nat) :
    shiftTimes op (k + 1) v cf = shiftOnce op (shiftTimes op k v cf).1 (shiftTimes op k v cf).2 := by
  induction k generalizing v cf with
  | zero => rfl
  | succ k ih => exact ih ..

/-- An operation that does not read the carry, by the values `x` it runs through and the bits `c` it shifts out. -/
theorem shiftTimes_succ_eq {op : ShiftOp} {x : Nat → BitVec n} {c : Nat → Bool} (hx : x 0 = v)
    (hstep : ∀ k b, shiftOnce op (x k) b = (x (k + 1), c k)) (k : Nat) :
    shiftTimes op (k + 1) v cf = (x (k + 1), c k) := by
  subst hx
  induction k with
  | zero => exact hstep 0 cf
  | succ k ih => rw [shiftTimes_succ, ih, hstep]

theorem shiftTimes_shl :
    ∀ k, shiftTimes .shl (k + 1) v cf = (v <<< (k + 1), decide (k + 1 ≤ n) && v.getLsbD (n - (k + 1))) :=
  shiftTimes_succ_eq v cf (BitVec.shiftLeft_zero v) fun k b => by
    rw [shiftOnce, ← BitVec.shiftLeft_add, BitVec.msb_shiftLeft, BitVec.getMsbD_eq_getLsbD, Nat.add_comm k 1,
      Nat.sub_add_eq]
    simp [Nat.one_add_le_iff]

theorem shiftTimes_shr : ∀ k, shiftTimes .shr (k + 1) v cf = (v >>> (k + 1), v.getLsbD k) :=
  shiftTimes_succ_eq v cf (BitVec.ushiftRight_zero v) fun k b => by
    rw [shiftOnce, ← BitVec.shiftRight_add, BitVec.getLsbD_ushiftRight]
    rfl

theorem shiftTimes_sar (hn : 0 < n) :
    ∀ k, shiftTimes .sar (k + 1) v cf = (v.sshiftRight (k + 1), if k < n then v.getLsbD k else v.msb) :=
  shiftTimes_succ_eq v cf BitVec.sshiftRight_zero fun k b => by
    rw [shiftOnce_sar, ← BitVec.sshiftRight_add, BitVec.getLsbD_sshiftRight]
    simp [hn.ne']

theorem shiftTimes_rol (hn : 1 < n) :
    ∀ k, shiftTimes .rol (k + 1) v cf = (v.rotateLeft (k + 1), (v.rotateLeft (k + 1)).getLsbD 0) :=
  shiftTimes_succ_eq v cf (rotateLeft_zero v) fun k b => by
    rw [shiftOnce_rol _ _ hn, rotateLeft_add, getLsbD_rotateLeft_one _ hn (by omega), if_pos rfl]

theorem shiftTimes_ror (hn : 1 < n) :
    ∀ k, shiftTimes .ror (k + 1) v cf = (v.rotateRight (k + 1), (v.rotateRight (k + 1)).msb) :=
  shiftTimes_succ_eq v cf (rotateRight_zero v) fun k b => by
    rw [shiftOnce_ror _ _ hn, rotateRight_add, BitVec.msb_eq_getLsbD_last, getLsbD_rotateRight_one _ hn (by omega),
      if_pos rfl]

theorem carryAndValue_shiftTimes_rcl (hn : 0 < n) (k : Nat) :
    carryAndValue (shiftTimes .rcl k v cf) = (carryAndValue (v, cf)).rotateLeft k := by
  induction k with
  | zero => exact (rotateLeft_zero _).symm
  | succ k ih => rw [shiftTimes_succ, carryAndValue_rcl _ _ hn, ih, rotateLeft_add]

theorem carryAndValue_shiftTimes_rcr (hn : 0 < n) (k : Nat) :
    carryAndValue (shiftTimes .rcr k v cf) = (carryAndValue (v, cf)).rotateRight k := by
  induction k with
  | zero => exact (rotateRight_zero _).symm
  | succ k ih => rw [shiftTimes_succ, carryAndValue_rcr _ _ hn, ih, rotateRight_add]

/-- A full turn of the `n + 1` bits. -/
theorem shiftTimes_rcl_width (hn : 0 < n) : shiftTimes .rcl (n + 1) v cf = (v, cf) := by
  apply carryAndValue_injective
  rw [carryAndValue_shiftTimes_rcl _ _ hn, Nat.add_comm n, rotateLeft_width]

theorem shiftTimes_rcr_width (hn : 0 < n) : shiftTimes .rcr (n + 1) v cf = (v, cf) := by
  apply carryAndValue_injective
  rw [carryAndValue_shiftTimes_rcr _ _ hn, Nat.add_comm n, rotateRight_width]

theorem shiftOnce_rcr_rcl (hn : 0 < n) :
    shiftOnce .rcr (shiftOnce .rcl v cf).1 (shiftOnce .rcl v cf).2 = (v, cf) := by
  apply carryAndValue_injective
  rw [carryAndValue_rcr _ _ hn, carryAndValue_rcl _ _ hn, rotateRight_rotateLeft_one _ (by omega)]

/-- The last position to the left is undone by the first to the right. -/
theorem shiftTimes_rcr_rcl (hn : 0 < n) (k : Nat) :
    shiftTimes .rcr k (shiftTimes .rcl k v cf).1 (shiftTimes .rcl k v cf).2 = (v, cf) := by
  induction k with
  | zero => rfl
  | succ k ih => rw [shiftTimes, shiftTimes_succ, shiftOnce_rcr_rcl _ _ hn, ih]

end shiftTimes

section logicRows

variable (s : State)

/-! ### TEST (42_logic_shift.md R324) -/

/-- FLAGS written on a state that the read of the operand has changed in the device record alone. -/
theorem testWith_frame {n : Nat} {s t : State} (hy : SameSystem s t) (hi : t.ip = s.ip) (hd : SameData s t)
    (hf : t.flags = s.flags) (a b : BitVec n) :
    SameSystem s (testWith a b t) ∧ (testWith a b t).ip = s.ip ∧ SameData s (testWith a b t) ∧
      (testWith a b t).flags = logicFlags (a &&& b) s.flags :=
  ⟨hy.trans (by simp [sameSystem_iff, testWith]), hi, hd, by rw [← hf]; rfl⟩

theorem testWith_readLoc8 (e : RM Reg8) (b : Byte) :
    let t := testWith (readLoc8 (loc8 e s) s).1 b (readLoc8 (loc8 e s) s).2
    SameSystem s t ∧ t.ip = s.ip ∧ SameData s t ∧ t.flags = logicFlags (value8 e s &&& b) s.flags :=
  testWith_frame (by simp [sameSystem_iff]) (by simp) (by simp [SameData]) (by simp) _ b

theorem testWith_readLoc16 (e : RM Reg16) (b : Word) :
    let t := testWith (readLoc16 (loc16 e s) s).1 b (readLoc16 (loc16 e s) s).2
    SameSystem s t ∧ t.ip = s.ip ∧ SameData s t ∧ t.flags = logicFlags (value16 e s &&& b) s.flags :=
  testWith_frame (by simp [sameSystem_iff]) (by simp) (by simp [SameData]) (by simp) _ b

theorem exec_testEbGb (e : RM Reg8) (g : Reg8) : exec (.testEbGb e g) s = exec (.testEbIb e (reg8 g s)) s := by
  show execTestEbGb e g s = execTestEbIb e (reg8 g s) s
  simp [execTestEbGb, execTestEbIb]

theorem exec_testEvGv (e : RM Reg16) (g : Reg16) : exec (.testEvGv e g) s = exec (.testEvIw e (reg16 g s)) s := by
  show execTestEvGv e g s = execTestEvIw e (reg16 g s) s
  simp [execTestEvGv, execTestEvIw]

/-! ### The rows of group 2 by form (42_logic_shift.md R330; exec_shiftByClR8 stands with the accesses of an `Opaque`
device) -/

variable (op : ShiftOp)

theorem exec_shiftBy1R8 (e : RM Reg8) : exec (shiftBy1R8 op e) s = .next (shift8 op (loc8 e s) 1#8 s) := by cases op <;> rfl
theorem exec_shiftBy1R16 (e : RM Reg16) : exec (shiftBy1R16 op e) s = .next (shift16 op (loc16 e s) 1#8 s) := by
  cases op <;> rfl
theorem exec_shiftByClR16 (e : RM Reg16) :
    exec (shiftByClR16 op e) s = .next (shift16 op (loc16 e s) (reg8 .cl s) s) := by cases op <;> rfl

variable {s} (hv : s.cpuMode = .v20)

include hv

theorem exec_shiftByImmR8 (e : RM Reg8) (v : Byte) :
    exec (shiftByImmR8 op e v) s = .next (shift8 op (loc8 e s) v s) := by
  cases op <;> exact v20Only_next hv

theorem exec_shiftByImmR16 (e : RM Reg16) (v : Byte) :
    exec (shiftByImmR16 op e v) s = .next (shift16 op (loc16 e s) v s) := by
  cases op <;> exact v20Only_next hv

end logicRows

theorem effectiveCount_v20 (raw : Byte) : effectiveCount .v20 raw = raw.toNat % 32 :=
  (BitVec.toNat_and ..).trans (Nat.and_two_pow_sub_one_eq_mod _ 5)

/-- Settles O23: the shifts and plain rotates by the values they run through, RCL and RCR as the rotation of `n + 1` bits. -/
theorem shiftsByCountInClosedForm : Obligations.ShiftsByCountInClosedForm := by
  intro n v cf k hn
  have h0 : 0 < n := by omega
  have h1 : 1 < n := by omega
  exact ⟨shiftTimes_shl v cf k, shiftTimes_shr v cf k, shiftTimes_sar v cf h0 k, shiftTimes_rol v cf h1 k,
    shiftTimes_ror v cf h1 k, carryAndValue_shiftTimes_rcl v cf h0 k, carryAndValue_shiftTimes_rcr v cf h0 k,
    shiftTimes_rcl_width v cf h0, shiftTimes_rcr_width v cf h0, shiftTimes_rcr_rcl v cf h0 k⟩

/-- Settles O38: each row reads its operand and then writes FLAGS; a register operand reads after it as before. -/
theorem testRows : Obligations.TestRows := by
  intro s e f g h b w
  exact ⟨⟨_, exec_testEbGb s e g, testWith_readLoc8 s e _⟩, ⟨_, exec_testEvGv s f h, testWith_readLoc16 s f _⟩,
    ⟨_, rfl, rfl, ⟨rfl, rfl⟩, rfl, ⟨rfl, rfl, rfl⟩, rfl⟩, ⟨_, rfl, rfl, ⟨rfl, rfl⟩, rfl, ⟨rfl, rfl, rfl⟩, rfl⟩,
    ⟨_, rfl, testWith_readLoc8 s e b⟩, ⟨_, rfl, testWith_readLoc16 s f w⟩⟩

/-- Settles O43: each form is one call of the shift on the location and the raw count its row names. -/
theorem shiftRows : Obligations.ShiftRows := by
  refine ⟨fun s op e v hw => ?bytes, fun s op e v hw => ?words, fun raw => ⟨rfl, effectiveCount_v20 raw⟩⟩
  case bytes =>
    exact ⟨⟨_, exec_shiftBy1R8 s op e, shift8_done hw op _ _⟩, ⟨_, exec_shiftByClR8 op e s, shift8_done hw op _ _⟩,
      fun hv => ⟨_, exec_shiftByImmR8 op hv e v, shift8_done hw op _ _⟩⟩
  case words =>
    exact ⟨⟨_, exec_shiftBy1R16 s op e, shift16_done hw op _ _⟩, ⟨_, exec_shiftByClR16 s op e, shift16_done hw op _ _⟩,
      fun hv => ⟨_, exec_shiftByImmR16 op hv e v, shift16_done hw op _ _⟩⟩

end Sys2Proof.Machine

namespace Sys2Proof.Machine

section stringPrimitives

variable {rs : List Reg16} {s t u : State}

/-! ### What a string primitive leaves alone (43_string.md R360 to R366; 46_v20_extensions.md R477, R478) -/

theorem SameRegsBut.mono {rs' : List Reg16} (h : SameRegsBut rs s t) (hrs : rs ⊆ rs') : SameRegsBut rs' s t :=
  fun r hr => h r fun hm => hr (hrs hm)

/-- `t` is `s` but for the registers `rs`, the status flags, the contents of memory and the device record. -/
structure StringFrame (rs : List Reg16) (s t : State) : Prop where
  tame : Tame s t
  ip : t.ip = s.ip
  seg : t.seg = s.seg
  regs : SameRegsBut rs s t

theorem StringFrame.mono {rs' : List Reg16} (h : StringFrame rs s t) (hrs : rs ⊆ rs') : StringFrame rs' s t :=
  { h with regs := h.regs.mono hrs }

theorem StringFrame.trans (h : StringFrame rs s t) (h' : StringFrame rs t u) : StringFrame rs s u where
  tame := h.tame.trans h'.tame
  ip := h'.ip.trans h.ip
  seg := h'.seg.trans h.seg
  regs := h.regs.trans h'.regs

theorem StringFrame.setReg16 (h : StringFrame rs s t) {r : Reg16} (hr : r ∈ rs) (v : Word) :
    StringFrame rs s (setReg16 r v t) :=
  h.trans ⟨tame_setReg16 r v (.refl t), rfl, rfl, sameRegsBut_of_set rfl rs hr⟩

/-- No string primitive writes DF, so the direction is that of the state it starts from. -/
theorem StringFrame.direction (h : StringFrame rs s t) : flag .direction t = flag .direction s := h.tame.2.2 10 rfl

/-! ### The index registers go on by one element (43_string.md R360) -/

theorem add_strDelta (n : Word) (h : flag .direction t = flag .direction s) (v : Word) :
    v + strDelta n t = stepped n s v := by
  unfold strDelta stepped
  rw [h]
  split
  · exact (BitVec.sub_eq_add_neg ..).symm
  · rfl

@[simp] theorem stepSi_mem (n : Word) (s : State) : (stepSi n s).mem = s.mem := rfl
@[simp] theorem stepSi_flags (n : Word) (s : State) : (stepSi n s).flags = s.flags := rfl
@[simp] theorem stepDi_mem (n : Word) (s : State) : (stepDi n s).mem = s.mem := rfl
@[simp] theorem stepDi_flags (n : Word) (s : State) : (stepDi n s).flags = s.flags := rfl

theorem StringFrame.advance_si (h : StringFrame rs s u) (hr : .si ∉ rs) (n : Word) :
    StringFrame (rs ++ [.si]) s (stepSi n u) ∧ (stepSi n u).gpr.si = stepped n s s.gpr.si := by
  refine ⟨(h.mono (by simp)).setReg16 (by simp) _, ?_⟩
  have hsi : u.gpr.si = s.gpr.si := h.regs .si hr
  exact (add_strDelta n h.direction _).trans (by rw [hsi])

theorem StringFrame.advance_di (h : StringFrame rs s u) (hr : .di ∉ rs) (n : Word) :
    StringFrame (rs ++ [.di]) s (stepDi n u) ∧ (stepDi n u).gpr.di = stepped n s s.gpr.di := by
  refine ⟨(h.mono (by simp)).setReg16 (by simp) _, ?_⟩
  have hdi : u.gpr.di = s.gpr.di := h.regs .di hr
  exact (add_strDelta n h.direction _).trans (by rw [hdi])

theorem StringFrame.advance_si_di (h : StringFrame [] s u) (n : Word) :
    StringFrame [.si, .di] s (stepDi n (stepSi n u)) ∧ (stepDi n (stepSi n u)).gpr.si = stepped n s s.gpr.si ∧
      (stepDi n (stepSi n u)).gpr.di = stepped n s s.gpr.di :=
  have ⟨hs, hsi⟩ := h.advance_si (by simp) n
  have ⟨hd, hdi⟩ := hs.advance_di (by simp) n
  ⟨hd, hsi, hdi⟩

/-! ### Each primitive before its index registers go on -/

variable (s)

theorem stringFrame_move8_mem (g o : Word) (c : Loc8) : StringFrame [] s (move8 (.mem g o) c s) :=
  ⟨tame_move8 _ _ (.refl s), by simp [move8], by simp [move8, writeLoc8],
    sameRegsBut_of_gpr_eq _ (by simp [move8, writeLoc8])⟩

theorem stringFrame_move16_mem (g o : Word) (c : Loc16) : StringFrame [] s (move16 (.mem g o) c s) :=
  ⟨tame_move16 _ _ (.refl s), by simp [move16], by simp [move16, writeLoc16],
    sameRegsBut_of_gpr_eq _ (by simp [move16, writeLoc16])⟩

theorem stringFrame_readLoc8 (l : Loc8) : StringFrame [] s (readLoc8 l s).2 :=
  ⟨tame_readLoc8 l (.refl s), by simp, by simp, sameRegsBut_of_gpr_eq _ (by simp)⟩

theorem stringFrame_readLoc16 (l : Loc16) : StringFrame [] s (readLoc16 l s).2 :=
  ⟨tame_readLoc16 l (.refl s), by simp, by simp, sameRegsBut_of_gpr_eq _ (by simp)⟩

theorem stringFrame_move8_al (c : Loc8) : StringFrame [.ax] s (move8 (.reg .al) c s) :=
  ((stringFrame_readLoc8 s c).mono (by simp)).setReg16 (r := .ax) (by simp) _

theorem stringFrame_move16_ax (c : Loc16) : StringFrame [.ax] s (move16 (.reg .ax) c s) :=
  ((stringFrame_readLoc16 s c).mono (by simp)).setReg16 (by simp) _

/-- A comparison writes FLAGS alone (43_string.md R362, R363). -/
theorem cmp8_eq (d c : Loc8) :
    alu8 .cmp d c s = setFlags (subFlags (readLoc8 d s).1 (readLoc8 c (readLoc8 d s).2).1 false s.flags).2
      (readLoc8 c (readLoc8 d s).2).2 := by
  simp only [alu8, aluApply8, if_true, aluFlags, readLoc8_flags]

theorem cmp16_eq (d c : Loc16) :
    alu16 .cmp d c s = setFlags (subFlags (readLoc16 d s).1 (readLoc16 c (readLoc16 d s).2).1 false s.flags).2
      (readLoc16 c (readLoc16 d s).2).2 := by
  simp only [alu16, aluApply16, if_true, aluFlags, readLoc16_flags]

theorem stringFrame_cmp8 (d c : Loc8) : StringFrame [] s (alu8 .cmp d c s) :=
  ⟨tame_alu8 _ _ _ (.refl s), by simp [cmp8_eq], by simp [cmp8_eq],
    sameRegsBut_of_gpr_eq _ (by simp [cmp8_eq])⟩

theorem stringFrame_cmp16 (d c : Loc16) : StringFrame [] s (alu16 .cmp d c s) :=
  ⟨tame_alu16 _ _ _ (.refl s), by simp [cmp16_eq], by simp [cmp16_eq],
    sameRegsBut_of_gpr_eq _ (by simp [cmp16_eq])⟩

/-! ### The primitives -/

theorem movs8_advances : StringFrame [.si, .di] s (movs8 s) ∧ (movs8 s).gpr.si = stepped 1#16 s s.gpr.si ∧
    (movs8 s).gpr.di = stepped 1#16 s s.gpr.di := (stringFrame_move8_mem s _ _ _).advance_si_di 1#16

theorem movs16_advances : StringFrame [.si, .di] s (movs16 s) ∧ (movs16 s).gpr.si = stepped 2#16 s s.gpr.si ∧
    (movs16 s).gpr.di = stepped 2#16 s s.gpr.di := (stringFrame_move16_mem s _ _ _).advance_si_di 2#16

theorem cmps8_advances : StringFrame [.si, .di] s (cmps8 s) ∧ (cmps8 s).gpr.si = stepped 1#16 s s.gpr.si ∧
    (cmps8 s).gpr.di = stepped 1#16 s s.gpr.di := (stringFrame_cmp8 s _ _).advance_si_di 1#16

theorem cmps16_advances : StringFrame [.si, .di] s (cmps16 s) ∧ (cmps16 s).gpr.si = stepped 2#16 s s.gpr.si ∧
    (cmps16 s).gpr.di = stepped 2#16 s s.gpr.di := (stringFrame_cmp16 s _ _).advance_si_di 2#16

theorem scas8_advances : StringFrame [.di] s (scas8 s) ∧ (scas8 s).gpr.di = stepped 1#16 s s.gpr.di :=
  (stringFrame_cmp8 s _ _).advance_di (by simp) 1#16

theorem scas16_advances : StringFrame [.di] s (scas16 s) ∧ (scas16 s).gpr.di = stepped 2#16 s s.gpr.di :=
  (stringFrame_cmp16 s _ _).advance_di (by simp) 2#16

theorem lods8_advances : StringFrame [.ax, .si] s (lods8 s) ∧ (lods8 s).gpr.si = stepped 1#16 s s.gpr.si :=
  (stringFrame_move8_al s _).advance_si (by simp) 1#16

theorem lods16_advances : StringFrame [.ax, .si] s (lods16 s) ∧ (lods16 s).gpr.si = stepped 2#16 s s.gpr.si :=
  (stringFrame_move16_ax s _).advance_si (by simp) 2#16

theorem stos8_advances : StringFrame [.di] s (stos8 s) ∧ (stos8 s).gpr.di = stepped 1#16 s s.gpr.di :=
  (stringFrame_move8_mem s _ _ _).advance_di (by simp) 1#16

theorem stos16_advances : StringFrame [.di] s (stos16 s) ∧ (stos16 s).gpr.di = stepped 2#16 s s.gpr.di :=
  (stringFrame_move16_mem s _ _ _).advance_di (by simp) 2#16

theorem ins8_advances : StringFrame [.di] s (ins8 s) ∧ (ins8 s).gpr.di = stepped 1#16 s s.gpr.di :=
  StringFrame.advance_di (rs := []) ⟨tame_writeLoc8 _ _ (tame_ioIn8 _ (.refl s)), by simp, by simp [dstLoc8, writeLoc8],
    sameRegsBut_of_gpr_eq _ (by simp [dstLoc8, writeLoc8])⟩ (by simp) 1#16

theorem ins16_advances : StringFrame [.di] s (ins16 s) ∧ (ins16 s).gpr.di = stepped 2#16 s s.gpr.di :=
  StringFrame.advance_di (rs := []) ⟨tame_writeLoc16 _ _ (tame_ioIn16 _ (.refl s)), by simp,
    by simp [dstLoc16, writeLoc16], sameRegsBut_of_gpr_eq _ (by simp [dstLoc16, writeLoc16])⟩ (by simp) 2#16

theorem outs8_advances : StringFrame [.si] s (outs8 s) ∧ (outs8 s).gpr.si = stepped 1#16 s s.gpr.si :=
  StringFrame.advance_si (rs := []) ⟨tame_ioOut8 _ _ (tame_readLoc8 _ (.refl s)), by simp, by simp,
    sameRegsBut_of_gpr_eq _ (by simp)⟩ (by simp) 1#16

theorem outs16_advances : StringFrame [.si] s (outs16 s) ∧ (outs16 s).gpr.si = stepped 2#16 s s.gpr.si :=
  StringFrame.advance_si (rs := []) ⟨tame_ioOut16 _ _ (tame_readLoc16 _ (.refl s)), by simp, by simp,
    sameRegsBut_of_gpr_eq _ (by simp)⟩ (by simp) 2#16

/-! ### What the compare and scan primitives compare (43_string.md R362, R363) -/

theorem cmps8_compares : (cmps8 s).mem = s.mem ∧ (cmps8 s).flags = (subFlags (memRead8 (segFor .ds s) s.gpr.si s).1
    (memRead8 s.seg.es s.gpr.di (memRead8 (segFor .ds s) s.gpr.si s).2).1 false s.flags).2 := by
  simp only [cmps8, stepDi_mem, stepSi_mem, stepDi_flags, stepSi_flags, cmp8_eq]
  exact ⟨by simp, rfl⟩

theorem cmps16_compares : (cmps16 s).mem = s.mem ∧ (cmps16 s).flags = (subFlags (memRead16 (segFor .ds s) s.gpr.si s).1
    (memRead16 s.seg.es s.gpr.di (memRead16 (segFor .ds s) s.gpr.si s).2).1 false s.flags).2 := by
  simp only [cmps16, stepDi_mem, stepSi_mem, stepDi_flags, stepSi_flags, cmp16_eq]
  exact ⟨by simp, rfl⟩

theorem scas8_compares : (scas8 s).mem = s.mem ∧
    (scas8 s).flags = (subFlags (reg8 .al s) (memRead8 s.seg.es s.gpr.di s).1 false s.flags).2 := by
  simp only [scas8, stepDi_mem, stepDi_flags, cmp8_eq]
  exact ⟨by simp, rfl⟩

theorem scas16_compares : (scas16 s).mem = s.mem ∧
    (scas16 s).flags = (subFlags s.gpr.ax (memRead16 s.seg.es s.gpr.di s).1 false s.flags).2 := by
  simp only [scas16, stepDi_mem, stepDi_flags, cmp16_eq]
  exact ⟨by simp, rfl⟩

/-! ### What the others load, store and send (43_string.md R361, R364, R365; 46_v20_extensions.md R477, R478) -/

theorem lods8_loads : (lods8 s).mem = s.mem ∧ (lods8 s).flags = s.flags ∧ reg8 .ah (lods8 s) = reg8 .ah s ∧
    reg8 .al (lods8 s) = (memRead8 (segFor .ds s) s.gpr.si s).1 := by
  obtain ⟨-, -, hf, -, hal, -, hm⟩ := move8_reg_moved .al (srcLoc8 s) s
  exact ⟨hm, hf, hal .ah, hal .al⟩

theorem lods16_loads : (lods16 s).mem = s.mem ∧ (lods16 s).flags = s.flags ∧
    (lods16 s).gpr.ax = (memRead16 (segFor .ds s) s.gpr.si s).1 := by
  obtain ⟨-, -, hf, hax, -, hm⟩ := move16_reg_moved .ax (srcLoc16 s) s
  exact ⟨hm, hf, hax .ax⟩

theorem outs8_sends : (outs8 s).mem = s.mem ∧ (outs8 s).flags = s.flags ∧ (outs8 s).events =
    (ioOut8 s.gpr.dx (memRead8 (segFor .ds s) s.gpr.si s).1 (memRead8 (segFor .ds s) s.gpr.si s).2).events :=
  ⟨by simp [outs8], by simp [outs8], rfl⟩

theorem outs16_sends : (outs16 s).mem = s.mem ∧ (outs16 s).flags = s.flags ∧ (outs16 s).events =
    (ioOut16 s.gpr.dx (memRead16 (segFor .ds s) s.gpr.si s).1 (memRead16 (segFor .ds s) s.gpr.si s).2).events :=
  ⟨by simp [outs16], by simp [outs16], rfl⟩

variable {s} (hw : s.mem.wf = true)

include hw

theorem movs8_stores : (movs8 s).flags = s.flags ∧
    Stored [(lin s.seg.es s.gpr.di, (memRead8 (segFor .ds s) s.gpr.si s).1)] s (movs8 s) := by
  obtain ⟨-, -, hf, -, -, hst⟩ := move8_moved hw (dstLoc8 s) (srcLoc8 s)
  exact ⟨by simpa only [movs8, stepDi_flags, stepSi_flags] using hf,
    hst.congr rfl (by simp only [movs8, stepDi_mem, stepSi_mem]) fun _ => rfl⟩

theorem movs16_stores : (movs16 s).flags = s.flags ∧
    Stored (wordCells s.wordWrap s.seg.es s.gpr.di (memRead16 (segFor .ds s) s.gpr.si s).1) s (movs16 s) := by
  obtain ⟨-, -, hf, -, -, hst⟩ := move16_moved hw (dstLoc16 s) (srcLoc16 s)
  exact ⟨by simpa only [movs16, stepDi_flags, stepSi_flags] using hf,
    hst.congr rfl (by simp only [movs16, stepDi_mem, stepSi_mem]) fun _ => rfl⟩

theorem stos8_stores : (stos8 s).flags = s.flags ∧ Stored [(lin s.seg.es s.gpr.di, reg8 .al s)] s (stos8 s) := by
  obtain ⟨-, -, hf, -, -, hst⟩ := move8_moved hw (dstLoc8 s) (.reg .al)
  exact ⟨by simpa only [stos8, stepDi_flags] using hf, hst.congr rfl (by simp only [stos8, stepDi_mem]) fun _ => rfl⟩

theorem stos16_stores : (stos16 s).flags = s.flags ∧
    Stored (wordCells s.wordWrap s.seg.es s.gpr.di s.gpr.ax) s (stos16 s) := by
  obtain ⟨-, -, hf, -, -, hst⟩ := move16_moved hw (dstLoc16 s) (.reg .ax)
  exact ⟨by simpa only [stos16, stepDi_flags] using hf, hst.congr rfl (by simp only [stos16, stepDi_mem]) fun _ => rfl⟩

theorem ins8_stores : (ins8 s).flags = s.flags ∧
    Stored [(lin s.seg.es s.gpr.di, (ioIn8 s.gpr.dx s).1)] s (ins8 s) := by
  obtain ⟨-, -, hst⟩ := writeLoc8_putFrom (t := (ioIn8 s.gpr.dx s).2) hw (by simp) (by simp) (by simp) (by simp)
    (dstLoc8 s) (ioIn8 s.gpr.dx s).1
  exact ⟨by simp [ins8], hst.congr rfl (by simp only [ins8, stepDi_mem]) fun _ => rfl⟩

theorem ins16_stores : (ins16 s).flags = s.flags ∧
    Stored (wordCells s.wordWrap s.seg.es s.gpr.di (ioIn16 s.gpr.dx s).1) s (ins16 s) := by
  obtain ⟨-, -, hst⟩ := writeLoc16_putFrom (t := (ioIn16 s.gpr.dx s).2) hw (by simp) (by simp) (by simp) (by simp)
    (by simp) (dstLoc16 s) (ioIn16 s.gpr.dx s).1
  exact ⟨by simp [ins16], hst.congr rfl (by simp only [ins16, stepDi_mem]) fun _ => rfl⟩

end stringPrimitives

section ignoresRep

variable (r : Rep) (s : State)

/-! ### The primitives do not look at the REP mode (43_string.md R370) -/

/-- The REP mode among the fields `rehide` sets, on a state whose hidden fields are those of `s`. -/
theorem rehide_eq_repeatWith {s t : State} (h : SameSystem s t) :
    rehide s.trap s.cycles s.signal { s.dec with rep := r } s.pic t = repeatWith r t := by
  obtain ⟨htrap, -, -, hcyc, hsig, hdec, -, -, -, -, hpic, -⟩ := sameSystem_iff.1 h
  rw [← htrap, ← hcyc, ← hsig, ← hdec, ← hpic]
  rfl

/-- What leaves the hidden fields alone whatever they are leaves the REP mode alone. -/
theorem repeatWith_of_rehide {f : State → State} (hs : SameSystem s (f s))
    (hf : ∀ b c g d p, f (rehide b c g d p s) = rehide b c g d p (f s)) : f (repeatWith r s) = repeatWith r (f s) :=
  (hf s.trap s.cycles s.signal { s.dec with rep := r } s.pic).trans (rehide_eq_repeatWith r hs)

theorem repeatWith_of_rehide_read {α : Type} {f : State → α × State} (hs : SameSystem s (f s).2)
    (hf : ∀ b c g d p, f (rehide b c g d p s) = ((f s).1, rehide b c g d p (f s).2)) :
    f (repeatWith r s) = ((f s).1, repeatWith r (f s).2) :=
  (hf s.trap s.cycles s.signal { s.dec with rep := r } s.pic).trans (congrArg (Prod.mk _) (rehide_eq_repeatWith r hs))

@[simp] theorem memRead8_repeatWith (g o : Word) :
    memRead8 g o (repeatWith r s) = ((memRead8 g o s).1, repeatWith r (memRead8 g o s).2) :=
  repeatWith_of_rehide_read r s (by simp [sameSystem_iff]) fun b c m d p => busRead8_rehide b c m d p s _

@[simp] theorem memRead16_repeatWith (g o : Word) :
    memRead16 g o (repeatWith r s) = ((memRead16 g o s).1, repeatWith r (memRead16 g o s).2) :=
  repeatWith_of_rehide_read r s (by simp [sameSystem_iff]) fun b c m d p => memRead16_rehide b c m d p s g o

@[simp] theorem memWrite8_repeatWith (g o : Word) (v : Byte) :
    memWrite8 g o v (repeatWith r s) = repeatWith r (memWrite8 g o v s) :=
  repeatWith_of_rehide r s (by simp [sameSystem_iff]) fun b c m d p => busWrite8_rehide b c m d p s _ v

@[simp] theorem memWrite16_repeatWith (g o v : Word) :
    memWrite16 g o v (repeatWith r s) = repeatWith r (memWrite16 g o v s) :=
  repeatWith_of_rehide r s (by simp [sameSystem_iff]) fun b c m d p => memWrite16_rehide b c m d p s g o v

@[simp] theorem ioIn8_repeatWith (p : Word) : ioIn8 p (repeatWith r s) = ((ioIn8 p s).1, repeatWith r (ioIn8 p s).2) :=
  repeatWith_of_rehide_read r s (by simp [sameSystem_iff]) fun b c m d q => ioIn8_rehide b c m d q s p

@[simp] theorem ioIn16_repeatWith (p : Word) : ioIn16 p (repeatWith r s) = ((ioIn16 p s).1, repeatWith r (ioIn16 p s).2) := by
  simp only [ioIn16, ioIn8_repeatWith]

@[simp] theorem ioOut8_repeatWith (p : Word) (v : Byte) : ioOut8 p v (repeatWith r s) = repeatWith r (ioOut8 p v s) :=
  repeatWith_of_rehide r s (by simp [sameSystem_iff]) fun b c m d q => ioOut8_rehide b c m d q s p v

@[simp] theorem ioOut16_repeatWith (p v : Word) : ioOut16 p v (repeatWith r s) = repeatWith r (ioOut16 p v s) := by
  simp only [ioOut16, ioOut8_repeatWith]

@[simp] theorem readLoc8_repeatWith (l : Loc8) :
    readLoc8 l (repeatWith r s) = ((readLoc8 l s).1, repeatWith r (readLoc8 l s).2) := by
  cases l
  · rfl
  · exact memRead8_repeatWith r s _ _

@[simp] theorem readLoc16_repeatWith (l : Loc16) :
    readLoc16 l (repeatWith r s) = ((readLoc16 l s).1, repeatWith r (readLoc16 l s).2) := by
  cases l
  · rfl
  · rfl
  · exact memRead16_repeatWith r s _ _

@[simp] theorem writeLoc8_repeatWith (l : Loc8) (v : Byte) :
    writeLoc8 l v (repeatWith r s) = repeatWith r (writeLoc8 l v s) := by
  cases l
  · rfl
  · exact memWrite8_repeatWith r s _ _ v

@[simp] theorem writeLoc16_repeatWith (l : Loc16) (v : Word) :
    writeLoc16 l v (repeatWith r s) = repeatWith r (writeLoc16 l v s) := by
  cases l
  · rfl
  · rfl
  · exact memWrite16_repeatWith r s _ _ v

@[simp] theorem move8_repeatWith (d c : Loc8) : move8 d c (repeatWith r s) = repeatWith r (move8 d c s) := by
  simp only [move8, readLoc8_repeatWith, writeLoc8_repeatWith]

@[simp] theorem move16_repeatWith (d c : Loc16) : move16 d c (repeatWith r s) = repeatWith r (move16 d c s) := by
  simp only [move16, readLoc16_repeatWith, writeLoc16_repeatWith]

@[simp] theorem cmp8_repeatWith (d c : Loc8) : alu8 .cmp d c (repeatWith r s) = repeatWith r (alu8 .cmp d c s) := by
  simp only [cmp8_eq, readLoc8_repeatWith]
  rfl

@[simp] theorem cmp16_repeatWith (d c : Loc16) : alu16 .cmp d c (repeatWith r s) = repeatWith r (alu16 .cmp d c s) := by
  simp only [cmp16_eq, readLoc16_repeatWith]
  rfl

@[simp] theorem stepSi_repeatWith (n : Word) : stepSi n (repeatWith r s) = repeatWith r (stepSi n s) := rfl
@[simp] theorem stepDi_repeatWith (n : Word) : stepDi n (repeatWith r s) = repeatWith r (stepDi n s) := rfl
@[simp] theorem srcLoc8_repeatWith : srcLoc8 (repeatWith r s) = srcLoc8 s := rfl
@[simp] theorem srcLoc16_repeatWith : srcLoc16 (repeatWith r s) = srcLoc16 s := rfl
@[simp] theorem dstLoc8_repeatWith : dstLoc8 (repeatWith r s) = dstLoc8 s := rfl
@[simp] theorem dstLoc16_repeatWith : dstLoc16 (repeatWith r s) = dstLoc16 s := rfl
@[simp] theorem repeatWith_gpr : (repeatWith r s).gpr = s.gpr := rfl

end ignoresRep

section repLoop

open Sys2Proof.Rows

/-! ### The repeatable primitives (43_string.md R369) -/

/-- In mode `m` the row `i` is the repeatable primitive `once` with opcode `opcode`, `scan` whether ZF may end its loop. -/
structure IsStringRow (m : CpuMode) (i : Instr) (opcode : Byte) (scan : Bool) (once : State → State) : Prop where
  exec_eq : ∀ s, s.cpuMode = m → exec i s = stringInstr opcode scan once s
  encode_eq : encode i = [opcode]
  scan_iff : scan = true ↔ i ∈ scanRows
  frame : ∀ s, StringFrame [.ax, .si, .di] s (once s)
  repeatWith_eq : ∀ r s, once (repeatWith r s) = repeatWith r (once s)

theorem IsStringRow.of_frame {m : CpuMode} {i : Instr} {opcode : Byte} {scan : Bool} {once : State → State}
    {rs : List Reg16} (hexec : ∀ s, s.cpuMode = m → exec i s = stringInstr opcode scan once s)
    (hframe : ∀ s, StringFrame rs s (once s)) (hrep : ∀ r s, once (repeatWith r s) = repeatWith r (once s))
    (hencode : encode i = [opcode] := by rfl) (hscan : scan = true ↔ i ∈ scanRows := by simp [scanRows])
    (hrs : rs ⊆ [.ax, .si, .di] := by simp) : IsStringRow m i opcode scan once :=
  ⟨hexec, hencode, hscan, fun s => (hframe s).mono hrs, hrep⟩

theorem isStringRow_cmpsb (m : CpuMode) : IsStringRow m .cmpsb 0xA6#8 true cmps8 :=
  .of_frame (fun _ _ => rfl) (fun s => (cmps8_advances s).1) fun r s => by simp [cmps8]

theorem isStringRow_stosb (m : CpuMode) : IsStringRow m .stosb 0xAA#8 false stos8 :=
  .of_frame (fun _ _ => rfl) (fun s => (stos8_advances s).1) fun r s => by simp [stos8]

theorem exists_isStringRow {m : CpuMode} {i : Instr} (h : i ∈ stringRows ∨ i ∈ ioStringRows ∧ m = .v20) :
    ∃ opcode scan once, IsStringRow m i opcode scan once := by
  simp only [stringRows, ioStringRows, List.mem_cons, List.not_mem_nil, or_false] at h
  rcases h with (rfl | rfl | rfl | rfl | rfl | rfl | rfl | rfl | rfl | rfl) | ⟨rfl | rfl | rfl | rfl, rfl⟩
  · exact ⟨_, _, _, .of_frame (fun _ _ => rfl) (fun s => (movs8_advances s).1) fun r s => by simp [movs8]⟩
  · exact ⟨_, _, _, .of_frame (fun _ _ => rfl) (fun s => (movs16_advances s).1) fun r s => by simp [movs16]⟩
  · exact ⟨_, _, _, isStringRow_cmpsb m⟩
  · exact ⟨_, _, _, .of_frame (fun _ _ => rfl) (fun s => (cmps16_advances s).1) fun r s => by simp [cmps16]⟩
  · exact ⟨_, _, _, isStringRow_stosb m⟩
  · exact ⟨_, _, _, .of_frame (fun _ _ => rfl) (fun s => (stos16_advances s).1) fun r s => by simp [stos16]⟩
  · exact ⟨_, _, _, .of_frame (fun _ _ => rfl) (fun s => (lods8_advances s).1) fun r s => by simp [lods8]⟩
  · exact ⟨_, _, _, .of_frame (fun _ _ => rfl) (fun s => (lods16_advances s).1) fun r s => by simp [lods16]⟩
  · exact ⟨_, _, _, .of_frame (fun _ _ => rfl) (fun s => (scas8_advances s).1) fun r s => by simp [scas8]⟩
  · exact ⟨_, _, _, .of_frame (fun _ _ => rfl) (fun s => (scas16_advances s).1) fun r s => by simp [scas16]⟩
  · exact ⟨_, _, _, .of_frame (fun _ => v20Only_of_v20 _) (fun s => (ins8_advances s).1) fun r s => by simp [ins8]⟩
  · exact ⟨_, _, _, .of_frame (fun _ => v20Only_of_v20 _) (fun s => (ins16_advances s).1) fun r s => by simp [ins16]⟩
  · exact ⟨_, _, _, .of_frame (fun _ => v20Only_of_v20 _) (fun s => (outs8_advances s).1) fun r s => by simp [outs8]⟩
  · exact ⟨_, _, _, .of_frame (fun _ => v20Only_of_v20 _) (fun s => (outs16_advances s).1) fun r s => by simp [outs16]⟩

/-! ### One iteration (43_string.md R370 to R372) -/

/-- Under a REP-class prefix a repeatable primitive is its loop. -/
theorem stringInstr_of_rep (opcode : Byte) (scan : Bool) (once : State → State) {s : State} (h : s.dec.rep ≠ .off) :
    stringInstr opcode scan once s = repLoop opcode scan once (s.ip - 1#16) s.gpr.cx.toNat s := by
  unfold stringInstr
  split
  · next hr => exact absurd hr h
  · rfl
  · rfl

/-- The fetch of an iteration reads the byte before IP and leaves IP where it was. -/
theorem fetch8_setIp_primitive (s : State) :
    fetch8 (setIp (s.ip - 1#16) s) = busRead8 (lin s.seg.cs (s.ip - 1#16)) s := by
  have hip : s.ip - 1#16 + 1#16 = s.ip := BitVec.sub_add_cancel ..
  unfold fetch8 busRead8
  simp only [setIp_seg, setIp_ip, setIp_kindAt, hip]
  split <;> rfl

theorem repExit_iff {s : State} : repExit s = true ↔
    s.dec.rep = .repne ∧ flag .zero s = true ∨ s.dec.rep = .repe ∧ flag .zero s = false := by
  unfold repExit
  split <;> next h => simp [h]

/-- The state in which an iteration runs its primitive: the byte before IP has been read. -/
def refetched (s : State) : State := (busRead8 (lin s.seg.cs (s.ip - 1#16)) s).2

/-- The state an iteration of `once` leaves. -/
def iterated (once : State → State) (s : State) : State := decCx (once (refetched s))

theorem stringFrame_refetched (s : State) : StringFrame [] s (refetched s) :=
  ⟨tame_busRead8 _ (.refl s), by simp [refetched], by simp [refetched], sameRegsBut_of_gpr_eq _ (by simp [refetched])⟩

theorem SameSystem.dec {s t : State} (h : SameSystem s t) : t.dec = s.dec := by
  obtain ⟨-, -, -, -, -, hdec, -⟩ := sameSystem_iff.1 h
  exact hdec

theorem SameSystem.cpuMode {s t : State} (h : SameSystem s t) : t.cpuMode = s.cpuMode := by
  obtain ⟨-, -, -, -, -, -, -, -, -, -, -, hmode, -⟩ := sameSystem_iff.1 h
  exact hmode

section iteration

variable {m : CpuMode} {i : Instr} {opcode : Byte} {scan : Bool} {once : State → State}
  (h : IsStringRow m i opcode scan once)

include h

theorem IsStringRow.frame_refetched (s : State) : StringFrame [.ax, .si, .di] s (once (refetched s)) :=
  ((stringFrame_refetched s).mono (by simp)).trans (h.frame _)

theorem IsStringRow.frame_iterated (s : State) : StringFrame [.ax, .si, .di, .cx] s (iterated once s) :=
  ((h.frame_refetched s).mono (by simp)).setReg16 (by simp) _

theorem IsStringRow.iterated_cx (s : State) : (iterated once s).gpr.cx = s.gpr.cx - 1#16 :=
  congrArg (· - 1#16) ((h.frame_refetched s).regs .cx (by simp))

/-! ### The iteration as the primitive run once without the prefix (43_string.md R370) -/

/-- The primitive without the prefix, on the state in which its byte has been read. -/
theorem IsStringRow.exec_repOff (s : State) (hm : s.cpuMode = m) :
    exec i { refetched s with dec := { s.dec with rep := .off } } = .next (repeatWith .off (once (refetched s))) := by
  have hs := (stringFrame_refetched s).tame.1
  have hoff : { refetched s with dec := { s.dec with rep := .off } } = repeatWith .off (refetched s) := by
    rw [← hs.dec]
    rfl
  rw [hoff, h.exec_eq (repeatWith .off (refetched s)) (hs.cpuMode.trans hm), stringInstr_of_repOff _ _ _ rfl,
    h.repeatWith_eq]

/-- With the prefix back and CX one less it is the state the iteration leaves. -/
theorem IsStringRow.iterated_eq (s : State) :
    { repeatWith .off (once (refetched s)) with
        dec := s.dec, gpr := { (once (refetched s)).gpr with cx := s.gpr.cx - 1#16 } } = iterated once s := by
  have hu := h.frame_refetched s
  have hcx : s.gpr.cx = (once (refetched s)).gpr.cx := (hu.regs .cx (by simp)).symm
  rw [hcx, ← hu.tame.1.dec]
  rfl

/-- When an iteration leaves the loop (43_string.md R371). -/
theorem IsStringRow.leaves_iff (s : State) : (scan && repExit (iterated once s)) = true ↔ i ∈ scanRows ∧
    (s.dec.rep = .repne ∧ flag .zero (iterated once s) = true ∨
      s.dec.rep = .repe ∧ flag .zero (iterated once s) = false) := by
  rw [Bool.and_eq_true, h.scan_iff, repExit_iff, (h.frame_iterated s).tame.1.dec]

/-! ### The outcomes of the loop (43_string.md R370 to R372) -/

variable {s : State} (hm : s.cpuMode = m) (hr : s.dec.rep ≠ .off)

include hm hr

theorem IsStringRow.exec_of_rep : exec i s = repLoop opcode scan once (s.ip - 1#16) s.gpr.cx.toNat s :=
  (h.exec_eq s hm).trans (stringInstr_of_rep _ _ _ hr)

/-- With CX = 0 no iteration runs. -/
theorem IsStringRow.exec_of_cx_zero (hc : s.gpr.cx = 0#16) : exec i s = .next s := by
  rw [h.exec_of_rep hm hr, hc]
  rfl

variable (hc : s.gpr.cx ≠ 0#16)

include hc

theorem IsStringRow.exec_of_byteChanged (hb : (busRead8 (lin s.seg.cs (s.ip - 1#16)) s).1 ≠ opcode) :
    exec i s = .refused (.repByteChanged (refetched s)) := by
  have hk : s.gpr.cx.toNat = (s.gpr.cx - 1#16).toNat + 1 := by bv_omega
  rw [h.exec_of_rep hm hr, hk, repLoop, fetch8_setIp_primitive]
  exact if_neg hb

/-- With the opcode byte in place one iteration runs; the loop then ends by ZF or goes on. -/
theorem IsStringRow.exec_of_byteInPlace (hb : (busRead8 (lin s.seg.cs (s.ip - 1#16)) s).1 = opcode) :
    exec i s = if scan && repExit (iterated once s) then .next (iterated once s) else exec i (iterated once s) := by
  have hk : s.gpr.cx.toNat = (s.gpr.cx - 1#16).toNat + 1 := by bv_omega
  have hv := h.frame_iterated s
  have hgo : exec i (iterated once s) =
      repLoop opcode scan once (s.ip - 1#16) (s.gpr.cx - 1#16).toNat (iterated once s) := by
    rw [h.exec_of_rep (hv.tame.1.cpuMode.trans hm) (by rwa [hv.tame.1.dec]), hv.ip, h.iterated_cx]
  rw [hgo, h.exec_of_rep hm hr, hk, repLoop, fetch8_setIp_primitive]
  exact if_pos hb

end iteration

end repLoop

section buffers

variable {s t : State}

/-! ### What the next iteration finds as it was -/

theorem segFor_congr (hd : t.dec = s.dec) (hs : t.seg = s.seg) (d : Sreg) : segFor d t = segFor d s := by
  unfold segFor
  rw [hd]
  split <;> exact sreg_congr hs _

theorem SameSystem.peek (h : SameSystem s t) {a : Addr} (hm : t.mem.read a.toNat = s.mem.read a.toNat) :
    peek t a = peek s a := by
  unfold Machine.peek
  rw [h.kindAt, hm]

theorem SameSystem.peek_of_mem_eq (h : SameSystem s t) (hm : t.mem = s.mem) (a : Addr) :
    Machine.peek t a = Machine.peek s a :=
  h.peek (by rw [hm])

theorem iterated_of_peek {opcode : Byte} (once : State → State) (h : peek s (lin s.seg.cs (s.ip - 1#16)) = some opcode) :
    iterated once s = decCx (once s) := by
  rw [iterated, refetched, busRead8_of_peek h]

theorem stepped_forward (n : Word) (h : flag .direction s = false) (v : Word) : stepped n s v = v + n := by
  simp [stepped, h]

theorem add_one_add_ofNat (w : Word) (j : Nat) : w + 1#16 + BitVec.ofNat 16 j = w + BitVec.ofNat 16 (j + 1) := by
  rw [BitVec.ofNat_add, BitVec.add_assoc, BitVec.add_comm (1#16)]

/-- Seen from an index register that has gone on by one, the elements are one nearer. -/
theorem peek_source_next {rs : List Reg16} (h : StringFrame rs s t) (hm : t.mem = s.mem)
    (hsi : t.gpr.si = s.gpr.si + 1#16) (j : Nat) : peek t (lin (segFor .ds t) (t.gpr.si + BitVec.ofNat 16 j)) =
      peek s (lin (segFor .ds s) (s.gpr.si + BitVec.ofNat 16 (j + 1))) := by
  rw [h.tame.1.peek_of_mem_eq hm, segFor_congr h.tame.1.dec h.seg, hsi, add_one_add_ofNat]

theorem peek_destination_next {rs : List Reg16} (h : StringFrame rs s t) (hm : t.mem = s.mem)
    (hdi : t.gpr.di = s.gpr.di + 1#16) (j : Nat) : peek t (lin t.seg.es (t.gpr.di + BitVec.ofNat 16 j)) =
      peek s (lin s.seg.es (s.gpr.di + BitVec.ofNat 16 (j + 1))) := by
  rw [h.tame.1.peek_of_mem_eq hm, h.seg, hdi, add_one_add_ofNat]

/-! ### `REPE CMPSB` (43_string.md R362, R371, R375) -/

/-- A comparison of a byte each side that no `Opaque` device holds. -/
theorem cmps8_zero {a b : Byte} (ha : peek s (lin (segFor .ds s) s.gpr.si) = some a)
    (hb : peek s (lin s.seg.es s.gpr.di) = some b) : flag .zero (cmps8 s) = decide (a = b) := by
  have hz : flagOf .zero (subFlags a b false s.flags).2 = decide (a = b) := by
    rw [(subFlags_szp a b false s.flags).2.1, subFlags_fst_eq (by decide)]
    exact decide_eq_decide.2 sub_eq_zero
  rw [flag, (cmps8_compares s).2, memRead8, memRead8, busRead8_of_peek ha, busRead8_of_peek hb]
  exact hz

/-- One iteration: equal bytes keep the loop going, different ones end it. -/
theorem exec_cmpsb_of_peek {a b : Byte} (hr : s.dec.rep = .repe) (hc : s.gpr.cx ≠ 0#16)
    (hp : peek s (lin s.seg.cs (s.ip - 1#16)) = some 0xA6#8) (ha : peek s (lin (segFor .ds s) s.gpr.si) = some a)
    (hb : peek s (lin s.seg.es s.gpr.di) = some b) :
    exec .cmpsb s = if a = b then exec .cmpsb (decCx (cmps8 s)) else .next (decCx (cmps8 s)) := by
  have hexit : repExit (decCx (cmps8 s)) = !decide (a = b) := by
    have hdec : (decCx (cmps8 s)).dec = s.dec := (cmps8_advances s).1.tame.1.dec
    rw [← cmps8_zero ha hb, repExit, hdec, hr]
    rfl
  rw [(isStringRow_cmpsb s.cpuMode).exec_of_byteInPlace rfl (by simp [hr]) hc (by rw [busRead8_of_peek hp]),
    iterated_of_peek cmps8 hp, hexit]
  by_cases h : a = b <;> simp [h]

/-- What an iteration with DF = 0 leaves. -/
theorem decCx_cmps8 (hd : flag .direction s = false) :
    StringFrame [.cx, .si, .di] s (decCx (cmps8 s)) ∧ (decCx (cmps8 s)).gpr.cx = s.gpr.cx - 1#16 ∧
      (decCx (cmps8 s)).gpr.si = s.gpr.si + 1#16 ∧ (decCx (cmps8 s)).gpr.di = s.gpr.di + 1#16 ∧
      (decCx (cmps8 s)).mem = s.mem := by
  obtain ⟨hf, hsi, hdi⟩ := cmps8_advances s
  rw [stepped_forward _ hd] at hsi hdi
  have hcx : (cmps8 s).gpr.cx = s.gpr.cx := hf.regs .cx (by simp)
  exact ⟨(hf.mono (by simp)).setReg16 (by simp) _, congrArg (· - 1#16) hcx, hsi, hdi, (cmps8_compares s).1⟩

/-! ### `REP STOSB` (43_string.md R365, R370) -/

theorem Stored.of_lookup {ws ws' : List (Addr × Byte)} (h : Stored ws s t) (hl : ∀ a, ws'.lookup a = ws.lookup a) :
    Stored ws' s t := by
  intro a
  rw [hl, h a]

/-- Among stores of one value the order is of no account. -/
theorem lookup_cons_eq_lookup_concat {ws : List (Addr × Byte)} {c : Addr × Byte} (h : ∀ d ∈ ws, d.2 = c.2) (a : Addr) :
    (c :: ws).lookup a = (ws ++ [c]).lookup a := by
  induction ws with
  | nil => rfl
  | cons d ws ih =>
    obtain ⟨hd, hws⟩ := List.forall_mem_cons.1 h
    rw [List.cons_append, List.lookup_cons (as := ws ++ [c]), ← ih hws, List.lookup_cons, List.lookup_cons,
      List.lookup_cons, hd]
    split <;> split <;> rfl

/-- A buffer stored from its first byte on. -/
theorem stored_fill_succ {u : State} {f : Nat → Addr} {n : Nat} {v : Byte} (h0 : Stored [(f 0, v)] s t)
    (h : Stored ((List.range n).map fun j => (f (j + 1), v)) t u) (hk : ∀ a, kindAt t a = kindAt s a) :
    Stored ((List.range (n + 1)).map fun j => (f j, v)) s u := by
  refine (h0.trans h hk).of_lookup fun a => ?_
  rw [List.range_succ_eq_map, List.map_cons, List.map_map]
  exact lookup_cons_eq_lookup_concat (by simp) a

/-- What an iteration with DF = 0 leaves. -/
theorem decCx_stos8 (hw : s.mem.wf = true) (hd : flag .direction s = false) :
    StringFrame [.cx, .di] s (decCx (stos8 s)) ∧ (decCx (stos8 s)).gpr.cx = s.gpr.cx - 1#16 ∧
      (decCx (stos8 s)).gpr.di = s.gpr.di + 1#16 ∧ (decCx (stos8 s)).flags = s.flags ∧
      Stored [(lin s.seg.es s.gpr.di, reg8 .al s)] s (decCx (stos8 s)) := by
  obtain ⟨hf, hdi⟩ := stos8_advances s
  rw [stepped_forward _ hd] at hdi
  obtain ⟨hfl, hst⟩ := stos8_stores hw
  have hcx : (stos8 s).gpr.cx = s.gpr.cx := hf.regs .cx (by simp)
  exact ⟨(hf.mono (by simp)).setReg16 (by simp) _, congrArg (· - 1#16) hcx, hdi, hfl, hst⟩

theorem exec_stosb_of_peek (hr : s.dec.rep ≠ .off) (hc : s.gpr.cx ≠ 0#16)
    (hp : peek s (lin s.seg.cs (s.ip - 1#16)) = some 0xAA#8) : exec .stosb s = exec .stosb (decCx (stos8 s)) := by
  rw [(isStringRow_stosb s.cpuMode).exec_of_byteInPlace rfl hr hc (by rw [busRead8_of_peek hp]), iterated_of_peek stos8 hp]
  rfl

end buffers

/-- Settles O44: each primitive is a move, a comparison or a port access, and then its index registers go on. -/
theorem stringRowsRunOnce : Obligations.StringRowsRunOnce := by
  intro s hw hr
  refine ⟨?movsb, ?movsw, ?cmpsb, ?cmpsw, ?scasb, ?scasw, ?lodsb, ?lodsw, ?stosb, ?stosw, fun hv =>
    ⟨?insb, ?insw, ?outsb, ?outsw⟩⟩
  case movsb =>
    obtain ⟨h, hsi, hdi⟩ := movs8_advances s
    obtain ⟨hf, hst⟩ := movs8_stores hw
    exact ⟨_, stringInstr_of_repOff _ _ _ hr, h.tame.1, h.ip, hf, h.seg, hst, h.regs, hsi, hdi⟩
  case movsw =>
    obtain ⟨h, hsi, hdi⟩ := movs16_advances s
    obtain ⟨hf, hst⟩ := movs16_stores hw
    exact ⟨_, stringInstr_of_repOff _ _ _ hr, h.tame.1, h.ip, hf, h.seg, hst, h.regs, hsi, hdi⟩
  case cmpsb =>
    obtain ⟨h, hsi, hdi⟩ := cmps8_advances s
    obtain ⟨hm, hf⟩ := cmps8_compares s
    exact ⟨_, stringInstr_of_repOff _ _ _ hr, h.tame.1, h.ip, h.seg, hm, hf, h.regs, hsi, hdi⟩
  case cmpsw =>
    obtain ⟨h, hsi, hdi⟩ := cmps16_advances s
    obtain ⟨hm, hf⟩ := cmps16_compares s
    exact ⟨_, stringInstr_of_repOff _ _ _ hr, h.tame.1, h.ip, h.seg, hm, hf, h.regs, hsi, hdi⟩
  case scasb =>
    obtain ⟨h, hdi⟩ := scas8_advances s
    obtain ⟨hm, hf⟩ := scas8_compares s
    exact ⟨_, stringInstr_of_repOff _ _ _ hr, h.tame.1, h.ip, h.seg, hm, hf, h.regs, hdi⟩
  case scasw =>
    obtain ⟨h, hdi⟩ := scas16_advances s
    obtain ⟨hm, hf⟩ := scas16_compares s
    exact ⟨_, stringInstr_of_repOff _ _ _ hr, h.tame.1, h.ip, h.seg, hm, hf, h.regs, hdi⟩
  case lodsb =>
    obtain ⟨h, hsi⟩ := lods8_advances s
    obtain ⟨hm, hf, hah, hal⟩ := lods8_loads s
    exact ⟨_, stringInstr_of_repOff _ _ _ hr, h.tame.1, h.ip, hf, h.seg, hm, h.regs, hah, hal, hsi⟩
  case lodsw =>
    obtain ⟨h, hsi⟩ := lods16_advances s
    obtain ⟨hm, hf, hax⟩ := lods16_loads s
    exact ⟨_, stringInstr_of_repOff _ _ _ hr, h.tame.1, h.ip, hf, h.seg, hm, h.regs, hax, hsi⟩
  case stosb =>
    obtain ⟨h, hdi⟩ := stos8_advances s
    obtain ⟨hf, hst⟩ := stos8_stores hw
    exact ⟨_, stringInstr_of_repOff _ _ _ hr, h.tame.1, h.ip, hf, h.seg, hst, h.regs, hdi⟩
  case stosw =>
    obtain ⟨h, hdi⟩ := stos16_advances s
    obtain ⟨hf, hst⟩ := stos16_stores hw
    exact ⟨_, stringInstr_of_repOff _ _ _ hr, h.tame.1, h.ip, hf, h.seg, hst, h.regs, hdi⟩
  case insb =>
    obtain ⟨h, hdi⟩ := ins8_advances s
    obtain ⟨hf, hst⟩ := ins8_stores hw
    exact ⟨_, (v20Only_of_v20 _ hv).trans (stringInstr_of_repOff _ _ _ hr), h.tame.1, h.ip, hf, h.seg, hst, h.regs, hdi⟩
  case insw =>
    obtain ⟨h, hdi⟩ := ins16_advances s
    obtain ⟨hf, hst⟩ := ins16_stores hw
    exact ⟨_, (v20Only_of_v20 _ hv).trans (stringInstr_of_repOff _ _ _ hr), h.tame.1, h.ip, hf, h.seg, hst, h.regs, hdi⟩
  case outsb =>
    obtain ⟨h, hsi⟩ := outs8_advances s
    obtain ⟨hm, hf, he⟩ := outs8_sends s
    exact ⟨_, (v20Only_of_v20 _ hv).trans (stringInstr_of_repOff _ _ _ hr), h.tame.1, h.ip, hf, h.seg, hm, h.regs, hsi, he⟩
  case outsw =>
    obtain ⟨h, hsi⟩ := outs16_advances s
    obtain ⟨hm, hf, he⟩ := outs16_sends s
    exact ⟨_, (v20Only_of_v20 _ hv).trans (stringInstr_of_repOff _ _ _ hr), h.tame.1, h.ip, hf, h.seg, hm, h.regs, hsi, he⟩

/-- Settles O45, row by row of the one form `IsStringRow`. -/
theorem repLoopByIteration : Obligations.RepLoopByIteration := by
  intro s i hr hi
  obtain ⟨opcode, scan, once, h⟩ := exists_isStringRow hi
  refine ⟨h.exec_of_cx_zero rfl hr, fun hc hb => ?changed, fun hc hb => ?inPlace⟩
  case changed =>
    have hb' : (busRead8 (lin s.seg.cs (s.ip - 1#16)) s).1 ≠ opcode := fun e => hb (by rw [e]; exact h.encode_eq)
    exact ⟨_, h.exec_of_byteChanged rfl hr hc hb', by simp [refetched]⟩
  case inPlace =>
    have hb' : (busRead8 (lin s.seg.cs (s.ip - 1#16)) s).1 = opcode :=
      (List.singleton_inj.1 (h.encode_eq.symm.trans hb)).symm
    refine ⟨_, h.exec_repOff s rfl, fun v hv => ?_⟩
    obtain rfl : v = iterated once s := hv.trans (h.iterated_eq s)
    rw [h.exec_of_byteInPlace rfl hr hc hb']
    exact if_congr (h.leaves_iff s) rfl rfl

/-- Settles O46, by induction on the index of the mismatch: after an iteration on equal bytes it is one nearer. -/
theorem repeCmpsbStopsAtMismatch : Obligations.RepeCmpsbStopsAtMismatch := by
  intro s k
  induction k generalizing s with
  | zero =>
    rintro hr hd hk hp - ⟨a, b, ha, hb, hne⟩
    simp only [BitVec.add_zero] at ha hb
    obtain ⟨hv, hcx, hsi, hdi, hm⟩ := decCx_cmps8 hd
    have hc : s.gpr.cx ≠ 0#16 := by bv_omega
    refine ⟨decCx (cmps8 s), ?_, hcx, hsi, hdi, ?_, hv.ip, hv.regs, hv.seg, hm⟩
    · rw [exec_cmpsb_of_peek hr hc hp ha hb, if_neg hne]
    · exact (cmps8_zero ha hb).trans (decide_eq_false hne)
  | succ k ih =>
    rintro hr hd hk hp heq ⟨a, b, ha, hb, hne⟩
    obtain ⟨c, hc1, hc2⟩ := heq 0 (by omega)
    simp only [BitVec.add_zero] at hc1 hc2
    obtain ⟨hv, hcx, hsi, hdi, hm⟩ := decCx_cmps8 hd
    have hc : s.gpr.cx ≠ 0#16 := by bv_omega
    have hstep : exec .cmpsb s = exec .cmpsb (decCx (cmps8 s)) := by
      rw [exec_cmpsb_of_peek hr hc hp hc1 hc2, if_pos rfl]
    generalize decCx (cmps8 s) = v at hv hcx hsi hdi hm hstep
    have hpeek := hv.tame.1.peek_of_mem_eq hm
    have hsrc := peek_source_next hv hm hsi
    have hdst := peek_destination_next hv hm hdi
    obtain ⟨t, ht, hcx', hsi', hdi', hz, hip, hregs, hseg, hmem⟩ := ih v (by rw [hv.tame.1.dec, hr])
      (hv.direction.trans hd) (by rw [hcx]; bv_omega) (by rw [hpeek, hv.seg, hv.ip, hp])
      (fun j hj => by rw [hsrc, hdst]; exact heq (j + 1) (by omega)) ⟨a, b, by rw [hsrc, ha], by rw [hdst, hb], hne⟩
    refine ⟨t, hstep.trans ht, ?_, ?_, ?_, hz, hip.trans hv.ip, hv.regs.trans hregs, hseg.trans hv.seg, hmem.trans hm⟩
    · rw [hcx', hcx, BitVec.sub_sub, BitVec.ofNat_add (k + 1) 1, BitVec.add_comm]
    · rw [hsi', hsi, add_one_add_ofNat]
    · rw [hdi', hdi, add_one_add_ofNat]

/-- Settles O47, by induction on CX: after an iteration the buffer begins one byte further on. -/
theorem repStosbFillsTheBuffer : Obligations.RepStosbFillsTheBuffer := by
  intro s
  induction hn : s.gpr.cx.toNat generalizing s with
  | zero =>
    intro hw hr hd hp hne
    have hc : s.gpr.cx = 0#16 := by bv_omega
    exact ⟨s, (isStringRow_stosb s.cpuMode).exec_of_cx_zero rfl hr hc, hc, by simp [hc], .refl _ s, rfl, rfl, rfl, .nil s⟩
  | succ n ih =>
    intro hw hr hd hp hne
    have hc : s.gpr.cx ≠ 0#16 := by bv_omega
    obtain ⟨hv, hcx, hdi, hfl, hst⟩ := decCx_stos8 hw hd
    have hal : reg8 .al (decCx (stos8 s)) = reg8 .al s := congrArg loByte (hv.regs .ax (by simp))
    have hstep := exec_stosb_of_peek hr hc hp
    generalize decCx (stos8 s) = v at hv hcx hdi hfl hst hal hstep
    have hbyte : peek v (lin s.seg.cs (s.ip - 1#16)) = some 0xAA#8 := by
      rw [hv.tame.1.peek (hst.other ?_), hp]
      simpa using hne 0 (by omega)
    obtain ⟨t, ht, hcx', hdi', hregs, hseg, hfl', hip, hst'⟩ := ih v (by rw [hcx]; bv_omega)
      (hv.tame.2.1 hw) (by rwa [hv.tame.1.dec]) (hv.direction.trans hd) (by rw [hv.seg, hv.ip, hbyte])
      (fun j hj => by rw [hv.seg, hv.ip, hdi, add_one_add_ofNat]; exact hne (j + 1) (by omega))
    simp only [hv.seg, hdi, hal, add_one_add_ofNat] at hst'
    refine ⟨t, hstep.trans ht, hcx', ?_, hv.regs.trans hregs, hseg.trans hv.seg,
      hfl'.trans hfl, hip.trans hv.ip, ?_⟩
    · rw [hdi', hdi, hcx]; bv_omega
    · exact stored_fill_succ (f := fun j => lin s.seg.es (s.gpr.di + BitVec.ofNat 16 j)) (by simpa using hst) hst'
        hv.tame.1.kindAt

end Sys2Proof.Machine

namespace Sys2Proof.Machine

section controlTransfer

open Sys2Proof.Rows

variable {s t u : State}

/-! ### An operand read before the transfer (44_control_transfer.md R406, R407, R412, R413) -/

theorem SameSystem.wordWrap {s t : State} (h : SameSystem s t) : t.wordWrap = s.wordWrap := by
  rw [h]

theorem untouched_readLoc16 (l : Loc16) (s : State) : Untouched s (readLoc16 l s).2 :=
  ⟨by simp [sameSystem_iff], by simp [SameData], by simp⟩

theorem untouched_readFar (m : MemOp) (s : State) : Untouched s (readFar m s).2 :=
  ⟨by simp [sameSystem_iff], by simp [SameData], by simp⟩

theorem Untouched.setIp_jumped (h : Untouched s u) (v : Word) : JumpedTo v s (setIp v u) := by
  obtain ⟨hsys, hdata, hflags⟩ := h
  exact ⟨hsys.trans (by simp [sameSystem_iff]), hdata, hflags, rfl⟩

theorem Untouched.farTo_jumped (h : Untouched s u) (c v : Word) : FarJumpedTo c v s (farTo c v u) := by
  obtain ⟨hsys, ⟨hgpr, hseg, hmem⟩, hflags⟩ := h
  refine ⟨hsys.trans (by simp [sameSystem_iff]), hgpr, hmem, fun q hq => ?_, hflags, rfl, rfl⟩
  rw [sreg_farTo, if_neg (by simpa using hq), sreg_congr hseg]

/-- Of two values of SP the later stays. -/
theorem Gpr.set_sp_set_sp (g : Gpr) (v w : Word) : (g.set .sp v).set .sp w = g.set .sp w := rfl

/-! ### Jumps and loops (44_control_transfer.md R404, R405, R420 to R423) -/

theorem exec_jcc (c : Cond) (d : Byte) (s : State) : exec (jcc c d) s = .next (jumpIf (c.holds s.flags) d s) := by
  cases c <;> rfl

theorem jumpIf_quiet (c : Bool) (d : Byte) (s : State) : Quiet s (jumpIf c d s) := by
  cases c <;> exact ⟨rfl, rfl⟩

/-- The loop is a conditional jump from the state with CX decremented. -/
theorem loopIf_frame (c : Bool) (d : Byte) (s : State) :
    let t := loopIf c d s
    SameSystem s t ∧ Quiet s t ∧ t.flags = s.flags ∧ t.seg = s.seg ∧ t.mem = s.mem ∧ SameRegsBut [.cx] s t ∧
      t.gpr.cx = s.gpr.cx - 1#16 ∧
      t.ip = if s.gpr.cx - 1#16 ≠ 0#16 ∧ c = true then s.ip + d.signExtend 16 else s.ip := by
  obtain ⟨hsys, ⟨hgpr, hseg, hmem⟩, hflags, hip⟩ :=
    jumpIf_jumped (s.gpr.cx - 1#16 != 0#16 && c) d (setReg16 .cx (s.gpr.cx - 1#16) s)
  refine ⟨.trans (by simp [sameSystem_iff]) hsys, jumpIf_quiet _ d (setReg16 .cx (s.gpr.cx - 1#16) s), hflags, hseg, hmem,
    sameRegsBut_of_set (r := .cx) hgpr _ (by simp), congrArg Gpr.cx hgpr, hip.trans ?_⟩
  simp only [Bool.and_eq_true, bne_iff_ne]
  rfl

/-! ### Calls (44_control_transfer.md R410 to R413) -/

/-- Two pushes one after another (20_memory.md R94). -/
theorem push2_stored (hw : s.mem.wf = true) (a b : Word) :
    Stored (wordCells s.wordWrap s.seg.ss (s.gpr.sp - 4#16) b ++ wordCells s.wordWrap s.seg.ss (s.gpr.sp - 2#16) a) s
      (push16 b (push16 a s)) := by
  have h := push16_stored (push16_wf hw a) b
  have hsp : s.gpr.sp - 2#16 - 2#16 = s.gpr.sp - 4#16 := by bv_omega
  rw [push16_wordWrap, push16_seg, push16_gpr, Gpr.set_sp_sp, hsp] at h
  exact (push16_stored hw a).trans h (push16_kindAt a s)

/-- A near call from the state in which its operand has been read. -/
theorem Untouched.callNear_frame (h : Untouched s u) (hw : s.mem.wf = true) (hip : u.ip = s.ip) (v : Word) :
    let t := callNear v u
    SameSystem s t ∧ t.flags = s.flags ∧ t.seg = s.seg ∧ t.ip = v ∧ SameRegsBut [.sp] s t ∧
      t.gpr.sp = s.gpr.sp - 2#16 ∧ Stored (wordCells s.wordWrap s.seg.ss (s.gpr.sp - 2#16) s.ip) s t := by
  obtain ⟨hsys, ⟨hgpr, hseg, hmem⟩, hflags⟩ := h
  have hregs : (callNear v u).gpr = s.gpr.set .sp (s.gpr.sp - 2#16) := by simp [callNear, hgpr]
  have hst := push16_stored (s := u) (by rwa [hmem]) u.ip
  rw [hsys.wordWrap, hseg, hgpr, hip] at hst
  exact ⟨hsys.trans (by simp [sameSystem_iff, callNear]), by simpa [callNear], by simpa [callNear], rfl,
    sameRegsBut_of_set hregs _ (by simp), by rw [hregs, Gpr.set_sp_sp],
    hst.congr hmem.symm (by simp [callNear, hip]) fun a => (hsys.kindAt a).symm⟩

/-- A far call from the state in which its operand has been read. -/
theorem Untouched.callFar_frame (h : Untouched s u) (hw : s.mem.wf = true) (hip : u.ip = s.ip) (c v : Word) :
    let t := callFar c v u
    SameSystem s t ∧ t.flags = s.flags ∧ SameSregsBut [.cs] s t ∧ t.ip = v ∧ t.seg.cs = c ∧ SameRegsBut [.sp] s t ∧
      t.gpr.sp = s.gpr.sp - 4#16 ∧ Stored (wordCells s.wordWrap s.seg.ss (s.gpr.sp - 4#16) s.ip
        ++ wordCells s.wordWrap s.seg.ss (s.gpr.sp - 2#16) s.seg.cs) s t := by
  obtain ⟨hsys, ⟨hgpr, hseg, hmem⟩, hflags⟩ := h
  have hsp : s.gpr.sp - 2#16 - 2#16 = s.gpr.sp - 4#16 := by bv_omega
  have hregs : (callFar c v u).gpr = s.gpr.set .sp (s.gpr.sp - 4#16) := by
    rw [callFar, farTo_gpr, push16_gpr, push16_gpr, Gpr.set_sp_set_sp, Gpr.set_sp_sp, hgpr, hsp]
  have hst := push2_stored (s := u) (by rwa [hmem]) u.seg.cs u.ip
  rw [hsys.wordWrap, hseg, hgpr, hip] at hst
  refine ⟨hsys.trans (by simp [sameSystem_iff, callFar]), by simpa [callFar], fun q hq => ?_, rfl, rfl,
    sameRegsBut_of_set hregs _ (by simp), by rw [hregs, Gpr.set_sp_sp],
    hst.congr hmem.symm (by simp [callFar, hip, hseg]) fun a => (hsys.kindAt a).symm⟩
  rw [callFar, sreg_farTo, if_neg (by simpa using hq), push16_sreg, push16_sreg, sreg_congr hseg]

/-! ### Returns (44_control_transfer.md R414 to R417) -/

theorem sameRegsBut_sp_of_set {v : Word} (h : t.gpr = s.gpr.set .sp v) : SameRegsBut [.sp] s t ∧ t.gpr.sp = v :=
  ⟨sameRegsBut_of_set h _ (by simp), by rw [h, Gpr.set_sp_sp]⟩

theorem returnNear_frame (s : State) :
    let t := returnNear s
    SameSystem s t ∧ t.flags = s.flags ∧ t.seg = s.seg ∧ t.mem = s.mem ∧ t.gpr = s.gpr.set .sp (s.gpr.sp + 2#16) ∧
      t.ip = (memRead16 s.seg.ss s.gpr.sp s).1 := by
  obtain ⟨hsys, -, hflags, hseg, hmem, hgpr, hval⟩ := pop16_frame s
  exact ⟨hsys.trans (by simp [sameSystem_iff, returnNear]), hflags, hseg, hmem, hgpr, hval⟩

/-- The second pop reads on from the first; the SP in between plays no part in what memory answers. -/
theorem returnFar_frame (s : State) :
    let t := returnFar s
    SameSystem s t ∧ t.flags = s.flags ∧ SameSregsBut [.cs] s t ∧ t.mem = s.mem ∧
      t.gpr = s.gpr.set .sp (s.gpr.sp + 4#16) ∧ t.ip = (memRead16 s.seg.ss s.gpr.sp s).1 ∧
      t.seg.cs = (memRead16 s.seg.ss (s.gpr.sp + 2#16) (memRead16 s.seg.ss s.gpr.sp s).2).1 := by
  have hsp : s.gpr.sp + 2#16 + 2#16 = s.gpr.sp + 4#16 := by bv_omega
  refine ⟨by simp [sameSystem_iff, returnFar], by simp [returnFar], fun q hq => ?_, by simp [returnFar], ?_, rfl, ?_⟩
  · rw [returnFar, sreg_farTo, if_neg (by simpa using hq), pop16_sreg, pop16_sreg]
  · rw [returnFar, farTo_gpr, pop16_gpr, pop16_gpr, Gpr.set_sp_set_sp, Gpr.set_sp_sp, hsp]
  · show (pop16 (pop16 s).2).1 = _
    obtain ⟨-, -, -, -, -, -, hval⟩ := pop16_frame (pop16 s).2
    rw [hval, pop16_seg, pop16_gpr, Gpr.set_sp_sp]
    exact memRead16_congr _ _ rfl rfl rfl rfl rfl

theorem dropStack_gpr (v : Word) {n : Word} (h : t.gpr = s.gpr.set .sp (s.gpr.sp + n)) :
    (dropStack v t).gpr = s.gpr.set .sp (s.gpr.sp + (n + v)) := by
  rw [dropStack, setReg16_gpr, h, Gpr.set_sp_set_sp, Gpr.set_sp_sp, BitVec.add_assoc]

/-! ### IRET (44_control_transfer.md R426) -/

theorem pop16_of_peekWord {w : Word} (h : peekWord s s.seg.ss s.gpr.sp = some w) :
    pop16 s = (w, setReg16 .sp (s.gpr.sp + 2#16) s) := by
  rw [pop16, memRead16_of_peekWord h]

theorem interruptReturn_of_peekWord {ip cs fl : Word} (hip : peekWord s s.seg.ss s.gpr.sp = some ip)
    (hcs : peekWord s s.seg.ss (s.gpr.sp + 2#16) = some cs) (hfl : peekWord s s.seg.ss (s.gpr.sp + 4#16) = some fl) :
    interruptReturn s = storeFlags fl (farTo cs ip (setReg16 .sp (s.gpr.sp + 6#16) s)) := by
  have h4 : s.gpr.sp + 2#16 + 2#16 = s.gpr.sp + 4#16 := by bv_omega
  have h6 : s.gpr.sp + 4#16 + 2#16 = s.gpr.sp + 6#16 := by bv_omega
  have pop_cs : pop16 (setReg16 .sp (s.gpr.sp + 2#16) s) = (cs, setReg16 .sp (s.gpr.sp + 4#16) s) := by
    rw [← h4]
    exact pop16_of_peekWord hcs
  have pop_fl : pop16 (setReg16 .sp (s.gpr.sp + 4#16) s) = (fl, setReg16 .sp (s.gpr.sp + 6#16) s) := by
    rw [← h6]
    exact pop16_of_peekWord hfl
  simp only [interruptReturn, pop16_of_peekWord hip, pop_cs, pop_fl]

/-- What IRET does when the three words on the stack are not on an `Opaque` device. -/
theorem interruptReturn_frame {ip cs fl : Word} (hip : peekWord s s.seg.ss s.gpr.sp = some ip)
    (hcs : peekWord s s.seg.ss (s.gpr.sp + 2#16) = some cs) (hfl : peekWord s s.seg.ss (s.gpr.sp + 4#16) = some fl) :
    let t := interruptReturn s
    SameSystem s t ∧ t.ip = ip ∧ t.seg.cs = cs ∧ SameSregsBut [.cs] s t ∧ t.flags = fl ||| 0x0002#16 ∧ t.mem = s.mem ∧
      SameRegsBut [.sp] s t ∧ t.gpr.sp = s.gpr.sp + 6#16 := by
  rw [interruptReturn_of_peekWord hip hcs hfl]
  refine ⟨rfl, rfl, rfl, fun q hq => ?_, rfl, rfl, sameRegsBut_sp_of_set rfl⟩
  rw [storeFlags_sreg, sreg_farTo, if_neg (by simpa using hq), setReg16_sreg]

/-! ### The words an interrupt entry has pushed (60_exceptions.md R510) -/

/-- Of the bytes `ws`, the last stored at the two addresses of a word at `seg:off` are those of `v`. -/
def WordAt (ws : List (Addr × Byte)) (wrap : WordWrap) (seg off v : Word) : Prop :=
  ws.lookup (lin seg off) = some (loByte v) ∧ ws.lookup (hiAddr wrap seg off) = some (hiByte v)

theorem wordAt_append (ws : List (Addr × Byte)) (wrap : WordWrap) (seg off v : Word) :
    WordAt (wordCells wrap seg off v ++ ws) wrap seg off v := by
  have hne : (lin seg off == hiAddr wrap seg off) = false := beq_false_of_ne (hiAddr_ne_lin wrap seg off).symm
  simp [WordAt, wordCells, List.lookup, hne]

/-- Words at offsets at least two apart share no byte, under either reading of `P_WORD_WRAP`. -/
theorem wordAddrs_apart (wrap : WordWrap) (seg : Word) {o o' : Word} (h : o ≠ o') (h1 : o ≠ o' + 1#16)
    (h2 : o + 1#16 ≠ o') : lin seg o ≠ hiAddr wrap seg o' ∧ lin seg o ≠ lin seg o' ∧
      hiAddr wrap seg o ≠ hiAddr wrap seg o' ∧ hiAddr wrap seg o ≠ lin seg o' := by
  cases wrap <;> simp only [hiAddr, lin] <;> and_intros <;> bv_omega

/-- A word stored later, at least two bytes away, leaves an earlier one in place. -/
theorem WordAt.append {ws : List (Addr × Byte)} {wrap : WordWrap} {seg o o' v : Word} (h : WordAt ws wrap seg o v)
    (hne : o ≠ o') (h1 : o ≠ o' + 1#16) (h2 : o + 1#16 ≠ o') (v' : Word) :
    WordAt (wordCells wrap seg o' v' ++ ws) wrap seg o v := by
  obtain ⟨ha, hb, hc, hd⟩ := wordAddrs_apart wrap seg hne h1 h2
  rw [← beq_eq_false_iff_ne] at ha hb hc hd
  simpa [WordAt, wordCells, List.lookup, ha, hb, hc, hd] using h

/-- A word stored in RAM is there to be read. -/
theorem WordAt.peekWord {ws : List (Addr × Byte)} {seg off v : Word} (h : WordAt ws s.wordWrap seg off v)
    (hst : Stored ws s t) (hsys : SameSystem s t) (hlo : IsRam s (lin seg off))
    (hhi : IsRam s (hiAddr s.wordWrap seg off)) : peekWord t seg off = some v := by
  have hbyte : ∀ {a b}, IsRam s a → ws.lookup a = some b → peek t a = some b := by
    intro a b ha hb
    simp [peek, (hsys.kindAt a).trans ha, hst a, ha, hb]
  obtain ⟨hl, hh⟩ := h
  rw [Machine.peekWord, hsys.wordWrap, hbyte hlo hl, hbyte hhi hh]
  exact congrArg some (wordOfBytes_lo_hi v)

/-- After an interrupt entry on a stack in RAM the stack holds IP, CS and FLAGS, from the top down. -/
theorem Entered.stack {n : Byte} {ret : Word} (h : Entered n ret s t)
    (hram : ∀ k ∈ [2#16, 4#16, 6#16], IsRam s (lin s.seg.ss (s.gpr.sp - k)) ∧
      IsRam s (hiAddr s.wordWrap s.seg.ss (s.gpr.sp - k))) :
    peekWord t t.seg.ss t.gpr.sp = some ret ∧ peekWord t t.seg.ss (t.gpr.sp + 2#16) = some s.seg.cs ∧
      peekWord t t.seg.ss (t.gpr.sp + 4#16) = some s.flags := by
  obtain ⟨hsys, -, hsregs, hsp, hst, -⟩ := h
  have hss : t.seg.ss = s.seg.ss := hsregs .ss (by simp)
  have h4 : s.gpr.sp - 6#16 + 2#16 = s.gpr.sp - 4#16 := by bv_omega
  have h2 : s.gpr.sp - 6#16 + 4#16 = s.gpr.sp - 2#16 := by bv_omega
  rw [List.append_assoc] at hst
  have hword : ∀ {k v}, k ∈ [2#16, 4#16, 6#16] → WordAt _ s.wordWrap s.seg.ss (s.gpr.sp - k) v →
      peekWord t s.seg.ss (s.gpr.sp - k) = some v := fun hk hv => hv.peekWord hst hsys (hram _ hk).1 (hram _ hk).2
  have hfl : WordAt (wordCells s.wordWrap s.seg.ss (s.gpr.sp - 2#16) s.flags) s.wordWrap s.seg.ss (s.gpr.sp - 2#16)
      s.flags := wordAt_append [] ..
  have hcs := wordAt_append (wordCells s.wordWrap s.seg.ss (s.gpr.sp - 2#16) s.flags) s.wordWrap s.seg.ss
    (s.gpr.sp - 4#16) s.seg.cs
  rw [hss, hsp, h4, h2]
  refine ⟨hword (by simp) (wordAt_append ..), hword (by simp) (hcs.append ?_ ?_ ?_ ret), hword (by simp)
    ((hfl.append ?_ ?_ ?_ s.seg.cs).append ?_ ?_ ?_ ret)⟩ <;> bv_omega

/-- A statement about the two rows of a family. -/
theorem forall_mem_pair {α : Type} {p : α → Prop} {a b : α} : (∀ x ∈ [a, b], p x) ↔ p a ∧ p b := by
  rw [List.forall_mem_cons, List.forall_mem_singleton]

end controlTransfer

/-- Settles O48: each row is the conditional jump of its condition. -/
theorem conditionalJumpRows : Obligations.ConditionalJumpRows := by
  refine fun s d => ⟨?rows, ⟨rfl, rfl, rfl, rfl, rfl, rfl, rfl, rfl⟩,
    ⟨rfl, rfl, rfl, (Bool.not_or ..).symm, rfl, rfl, (Bool.not_not _).symm, ?greater⟩⟩
  case rows =>
    rintro c _ rfl
    exact ⟨_, exec_jcc c d s, jumpIf_quiet _ d s, jumpIf_jumped _ d s⟩
  case greater => simp only [Cond.holds, Bool.not_or, bne, Bool.not_not]

/-- Settles O49: each row is a jump from the state in which its operand has been read, a loop one from the state with CX
decremented. -/
theorem jumpAndLoopRows : Obligations.JumpAndLoopRows := by
  rintro s d w c e m _ rfl
  refine ⟨⟨_, rfl, setIp_jumped _ s, rfl, rfl⟩, ⟨_, rfl, setIp_jumped _ s, rfl, rfl⟩,
    ⟨_, rfl, farTo_jumped c w s, rfl, rfl⟩, ⟨_, rfl, (untouched_readLoc16 _ s).setIp_jumped _⟩,
    ⟨_, rfl, (untouched_readFar m s).farTo_jumped _ _⟩, ⟨_, rfl, ?jcxz⟩, ?loops⟩
  case jcxz => simpa only [beq_iff_eq, sext16] using jumpIf_jumped (s.gpr.cx == 0#16) d s
  case loops =>
    exact List.forall_mem_cons.2 ⟨⟨_, rfl, loopIf_frame true d s⟩, forall_mem_pair.2
      ⟨⟨_, rfl, loopIf_frame (flag .zero s) d s⟩, ⟨_, rfl, loopIf_frame (!flag .zero s) d s⟩⟩⟩

/-- Settles O50: a call is made from the state in which its operand has been read; a return with an immediate drops that many
bytes more. -/
theorem callAndReturnRows : Obligations.CallAndReturnRows := by
  refine ⟨fun s d w c e m hw => ⟨forall_mem_pair.2 ⟨?call, ?callIndirect⟩, forall_mem_pair.2 ⟨?callFar, ?callFarIndirect⟩⟩,
    fun s v => ⟨forall_mem_pair.2 ?ret, forall_mem_pair.2 ?retf⟩⟩
  case call => exact ⟨_, rfl, (Untouched.refl s).callNear_frame hw rfl _⟩
  case callIndirect => exact ⟨_, rfl, (untouched_readLoc16 (loc16 e s) s).callNear_frame hw (readLoc16_ip ..) _⟩
  case callFar => exact ⟨_, rfl, (Untouched.refl s).callFar_frame hw rfl c w⟩
  case callFarIndirect => exact ⟨_, rfl, (untouched_readFar m s).callFar_frame hw (readFar_ip m s) _ _⟩
  case ret =>
    obtain ⟨hsys, hflags, hseg, hmem, hgpr, hip⟩ := returnNear_frame s
    obtain ⟨hregs, hsp⟩ := sameRegsBut_sp_of_set hgpr
    obtain ⟨hregs', hsp'⟩ := sameRegsBut_sp_of_set (dropStack_gpr v hgpr)
    exact ⟨⟨_, rfl, hsys, hflags, hseg, hmem, hregs, hsp, hip⟩,
      ⟨_, rfl, hsys.trans rfl, hflags, hseg, hmem, hregs', hsp', hip⟩⟩
  case retf =>
    obtain ⟨hsys, hflags, hsregs, hmem, hgpr, hip, hcs⟩ := returnFar_frame s
    obtain ⟨hregs, hsp⟩ := sameRegsBut_sp_of_set hgpr
    obtain ⟨hregs', hsp'⟩ := sameRegsBut_sp_of_set (dropStack_gpr v hgpr)
    exact ⟨⟨_, rfl, hsys, hflags, hsregs, hmem, hregs, hsp, hip, hcs⟩,
      ⟨_, rfl, hsys.trans rfl, hflags, hsregs, hmem, hregs', hsp', hip, hcs⟩⟩

/-- Settles O51: each row is the entry of its vector through the table; INTO asks OF first. -/
theorem softwareInterruptRows : Obligations.SoftwareInterruptRows := by
  intro s n hw
  refine ⟨fun h => ⟨_, doInterrupt_of_noHandler h, vectorThrough_entered hw _⟩,
    fun h => ⟨_, doInterrupt_of_noHandler h, vectorThrough_entered hw _⟩,
    fun h hof => ⟨_, ?taken, vectorThrough_entered hw _⟩, fun hof => ?passed, ?entry⟩
  case taken => exact (if_pos hof).trans (doInterrupt_of_noHandler h)
  case passed => exact if_neg (by simp [hof])
  case entry =>
    unfold vectorOff
    bv_omega

/-- Settles O53: IRET reads its three words from the stack, and the entry has put IP, CS and FLAGS there. -/
theorem iretUndoesInterruptEntry : Obligations.IretUndoesInterruptEntry := by
  refine ⟨fun s ip cs fl hip hcs hfl => ⟨_, rfl, interruptReturn_frame hip hcs hfl⟩, ?undo⟩
  case undo =>
    intro s t n hw hn hram ht
    obtain rfl : vectorThrough n s = t := Host.Outcome.next.inj ((doInterrupt_of_noHandler hn).symm.trans ht)
    have he := vectorThrough_entered hw n
    obtain ⟨hip, hcs, hfl⟩ := he.stack hram
    obtain ⟨-, he_regs, he_sregs, he_sp, -⟩ := he
    obtain ⟨-, hip', hcs', hsregs, hfl', -, hregs, hsp⟩ := interruptReturn_frame hip hcs hfl
    refine ⟨_, rfl, hip', seg_eq_of_sreg fun r => ?_, gpr_eq_of_reg16 fun r => ?_, hfl'⟩
    · by_cases hr : r ∈ [Sreg.cs]
      · obtain rfl := List.mem_singleton.1 hr
        exact hcs'
      · rw [hsregs r hr, he_sregs r hr]
    · by_cases hr : r ∈ [Reg16.sp]
      · obtain rfl := List.mem_singleton.1 hr
        exact (hsp.trans (congrArg (· + 6#16) he_sp)).trans (BitVec.sub_add_cancel ..)
      · rw [hregs r hr, he_regs r hr]

end Sys2Proof.Machine

namespace Sys2Proof.Machine

section processorControl

/-! ### Flag control (45_processor_control.md R440 to R446) -/

theorem setFlag_sameFlagsBut (f : Flag) (b : Bool) (s : State) : SameFlagsBut [f] s (setFlag f b s) := by
  intro i hi
  rw [setFlag_flags, getLsbD_putFlag, if_neg (hi f (List.mem_singleton_self f)).symm]

/-- A row whose meaning is one write of a flag writes that flag and nothing else. -/
theorem writesFlagAlone_of_exec_eq_setFlag {i : Instr} {f : Flag} {b : Bool} {s : State}
    (h : exec i s = .next (setFlag f b s)) :
    ∃ t, exec i s = .next t ∧ t = { s with flags := t.flags } ∧ flag f t = b ∧ SameFlagsBut [f] s t :=
  ⟨_, h, rfl, (flag_setFlag f f b s).trans (if_pos rfl), setFlag_sameFlagsBut f b s⟩

end processorControl

/-- Settles O54: each flag row is one write of its flag; HLT, WAIT and ESC are their own meanings. -/
theorem processorControlRows : Obligations.ProcessorControlRows := by
  refine fun s x g e => ⟨fun p hp => writesFlagAlone_of_exec_eq_setFlag ?flagRow, ?hlt, ?wait, ?esc⟩
  case flagRow => fin_cases hp <;> rfl
  case hlt => rfl
  case wait => rfl
  case esc => rfl

end Sys2Proof.Machine

namespace Sys2Proof.Machine

section stackedWords

variable {s t u : State} {rs : List Reg16} {ws : List Word}

/-! ### Words pushed one after another (20_memory.md R94) -/

/-- The bytes of the words `ws` on a stack that grows down from `sp`, the top one first. -/
def stackCells (wrap : WordWrap) (seg sp : Word) : List Word → List (Addr × Byte)
  | [] => []
  | v :: ws => wordCells wrap seg (sp - BitVec.ofNat 16 (2 * (ws.length + 1))) v ++ stackCells wrap seg sp ws

/-- `t` is `s` with the words `ws` pushed, the top one pushed last; else only the registers `rs` and the device record
differ. -/
structure Stacked (rs : List Reg16) (ws : List Word) (s t : State) : Prop where
  system : SameSystem s t
  ip : t.ip = s.ip
  flags : t.flags = s.flags
  seg : t.seg = s.seg
  wf : t.mem.wf = true
  regs : SameRegsBut rs s t
  sp : t.gpr.sp = s.gpr.sp - BitVec.ofNat 16 (2 * ws.length)
  stored : Stored (stackCells s.wordWrap s.seg.ss s.gpr.sp ws) s t

theorem Stacked.refl (rs : List Reg16) (hw : s.mem.wf = true) : Stacked rs [] s s :=
  ⟨.refl s, rfl, rfl, rfl, hw, .refl rs s, (BitVec.sub_zero _).symm, .nil s⟩

theorem Stacked.push (h : Stacked rs ws s t) (hsp : .sp ∈ rs) (v : Word) : Stacked rs (v :: ws) s (push16 v t) := by
  have hoff : t.gpr.sp - 2#16 = s.gpr.sp - BitVec.ofNat 16 (2 * (ws.length + 1)) := by rw [h.sp]; bv_omega
  have hst := push16_stored h.wf v
  rw [h.system.wordWrap, h.seg, hoff] at hst
  obtain ⟨hsys, hip, hflags, hseg, hregs, hsp', -⟩ := push16_pushed h.wf v
  exact ⟨h.system.trans hsys, hip.trans h.ip, hflags.trans h.flags, hseg.trans h.seg, push16_wf h.wf v,
    h.regs.trans fun r hr => hregs r fun e => hr (by rwa [List.mem_singleton.1 e]), hsp'.trans hoff,
    h.stored.trans hst h.system.kindAt⟩

/-- Registers of `rs` other than SP, and the device record, are open. -/
theorem Stacked.of_sameData (h : Stacked rs ws s t) (hsys : SameSystem t u) (hip : u.ip = t.ip) (hflags : u.flags = t.flags)
    (hseg : u.seg = t.seg) (hmem : u.mem = t.mem) (hregs : SameRegsBut rs t u) (hsp : u.gpr.sp = t.gpr.sp) :
    Stacked rs ws s u :=
  ⟨h.system.trans hsys, hip.trans h.ip, hflags.trans h.flags, hseg.trans h.seg, hmem ▸ h.wf, h.regs.trans hregs,
    hsp.trans h.sp, h.stored.congr rfl hmem fun _ => rfl⟩

/-- Each word of a stack of less than 64 KB is the last stored at its place. -/
theorem stackCells_wordAt (wrap : WordWrap) (seg sp : Word) (xs : List Word) (v : Word) (ys : List Word)
    (hlen : 2 * (xs ++ v :: ys).length < 2 ^ 16) :
    WordAt (stackCells wrap seg sp (xs ++ v :: ys)) wrap seg (sp - BitVec.ofNat 16 (2 * (ys.length + 1))) v := by
  induction xs with
  | nil => exact wordAt_append ..
  | cons x xs ih =>
    have hys : ys.length < (xs ++ v :: ys).length := by rw [List.length_append, List.length_cons]; omega
    rw [List.cons_append, List.length_cons] at hlen
    rw [List.cons_append, stackCells]
    refine (ih (by omega)).append ?_ ?_ ?_ x <;> bv_omega

/-- A pushed word is there to be read, below the words pushed after it, where the stack is in RAM. -/
theorem Stacked.peekWord (h : Stacked rs ws s t) {xs : List Word} {v : Word} {ys : List Word} (hws : ws = xs ++ v :: ys)
    (hlen : 2 * ws.length < 2 ^ 16) (hlo : IsRam s (lin s.seg.ss (s.gpr.sp - BitVec.ofNat 16 (2 * (ys.length + 1)))))
    (hhi : IsRam s (hiAddr s.wordWrap s.seg.ss (s.gpr.sp - BitVec.ofNat 16 (2 * (ys.length + 1))))) :
    peekWord t t.seg.ss (t.gpr.sp + BitVec.ofNat 16 (2 * xs.length)) = some v := by
  subst hws
  have hoff : t.gpr.sp + BitVec.ofNat 16 (2 * xs.length) = s.gpr.sp - BitVec.ofNat 16 (2 * (ys.length + 1)) := by
    rw [h.sp, List.length_append, List.length_cons]
    bv_omega
  rw [h.seg, hoff]
  exact (stackCells_wordAt _ _ _ xs v ys hlen).peekWord h.stored h.system hlo hhi

/-! ### Other bytes beside a stack -/

/-- The addresses of a word's bytes do not depend on the word. -/
theorem exists_mem_wordCells_of_mem {wrap : WordWrap} {seg off v v' : Word} {c : Addr × Byte}
    (h : c ∈ wordCells wrap seg off v) : ∃ d ∈ wordCells wrap seg off v', d.1 = c.1 := by
  obtain rfl | hc := List.mem_cons.1 h
  · exact ⟨_, List.mem_cons_self .., rfl⟩
  · obtain rfl := List.mem_singleton.1 hc
    exact ⟨_, List.mem_cons_of_mem _ (List.mem_cons_self ..), rfl⟩

/-- A byte of a stack lies in the word at its depth. -/
theorem exists_of_mem_stackCells {wrap : WordWrap} {seg sp : Word} {c : Addr × Byte}
    (h : c ∈ stackCells wrap seg sp ws) :
    ∃ k < ws.length, ∃ d ∈ wordCells wrap seg (sp - BitVec.ofNat 16 (2 * (k + 1))) 0#16, d.1 = c.1 := by
  induction ws with
  | nil => simp [stackCells] at h
  | cons v ws ih =>
    rcases List.mem_append.1 h with h | h
    · exact ⟨ws.length, Nat.lt_succ_self _, exists_mem_wordCells_of_mem h⟩
    · obtain ⟨k, hk, hd⟩ := ih h
      exact ⟨k, hk.trans (Nat.lt_succ_self _), hd⟩

/-- A word apart from the stack is there to be read as before the pushes. -/
theorem Stacked.peekWord_of_apart (h : Stacked rs ws s t) {seg off v : Word} (hv : Machine.peekWord s seg off = some v)
    (hapart : ∀ j < ws.length, ∀ c ∈ wordCells s.wordWrap seg off 0#16,
      ∀ d ∈ wordCells s.wordWrap s.seg.ss (s.gpr.sp - BitVec.ofNat 16 (2 * (j + 1))) 0#16, c.1 ≠ d.1) :
    Machine.peekWord t seg off = some v := by
  have hpeek : ∀ c ∈ wordCells s.wordWrap seg off 0#16, peek t c.1 = peek s c.1 := by
    intro c hc
    have hread : t.mem.read c.1.toNat = s.mem.read c.1.toNat := by
      refine h.stored.other fun b hb e => ?_
      obtain ⟨j, hj, d, hd, hdb⟩ := exists_of_mem_stackCells hb
      exact hapart j hj c hc d hd (hdb.trans e).symm
    unfold peek
    rw [h.system.kindAt, hread]
  obtain ⟨hhi, hlo⟩ := forall_mem_pair.1 hpeek
  rw [← hv]
  unfold Machine.peekWord
  rw [h.system.wordWrap, hlo, hhi]

/-- Of a word stored last at its place, every byte in RAM reads as stored. -/
theorem WordAt.read {cs : List (Addr × Byte)} {seg off v : Word} (h : WordAt cs s.wordWrap seg off v) (hst : Stored cs s t) :
    ∀ c ∈ wordCells s.wordWrap seg off v, IsRam s c.1 → t.mem.read c.1.toNat = c.2 := by
  obtain ⟨hlo, hhi⟩ := h
  refine forall_mem_pair.2 ⟨fun hram => ?_, fun hram => ?_⟩
  · rw [hst, if_pos hram, hhi]
    rfl
  · rw [hst, if_pos hram, hlo]
    rfl

end stackedWords

section pushaPopa

variable {s t : State}

/-! ### PUSHA and POPA (46_v20_extensions.md R471, R472) -/

/-- The words PUSHA leaves on the stack, the top one first (R471). -/
def pushaWords (g : Gpr) : List Word := [g.di, g.si, g.bp, g.sp, g.bx, g.dx, g.cx, g.ax]

theorem pushAll_stacked (hw : s.mem.wf = true) : Stacked [.sp] (pushaWords s.gpr) s (pushAll s) := by
  have hsp : Reg16.sp ∈ [Reg16.sp] := List.mem_singleton_self _
  have h := ((((((((Stacked.refl [.sp] hw).push hsp s.gpr.ax).push hsp s.gpr.cx).push hsp s.gpr.dx).push hsp s.gpr.bx).push
    hsp s.gpr.sp).push hsp s.gpr.bp).push hsp s.gpr.si).push hsp s.gpr.di
  simpa [pushAll, pushaWords] using h

/-- Where POPA finds the word of each register, in bytes above SP (R472). -/
def popaOrder : List (Word × Reg16) :=
  [(0#16, Reg16.di), (2#16, .si), (4#16, .bp), (6#16, .sp), (8#16, .bx), (10#16, .dx), (12#16, .cx), (14#16, .ax)]

/-- A pop while POPA is under way: `k` bytes have been taken from the stack of `s`. -/
theorem pop16_withGpr {g : Gpr} {k v : Word} (hsp : g.sp = s.gpr.sp + k)
    (h : peekWord s s.seg.ss (s.gpr.sp + k) = some v) :
    pop16 { s with gpr := g } = (v, { s with gpr := g.set .sp (s.gpr.sp + (k + 2#16)) }) := by
  rw [← hsp] at h
  rw [pop16_of_peekWord (s := { s with gpr := g }) h, hsp, BitVec.add_assoc]
  rfl

theorem popLoc_withGpr {g : Gpr} {k v : Word} (hsp : g.sp = s.gpr.sp + k)
    (h : peekWord s s.seg.ss (s.gpr.sp + k) = some v) (r : Reg16) :
    popLoc (.reg r) { s with gpr := g } = { s with gpr := (g.set .sp (s.gpr.sp + (k + 2#16))).set r v } := by
  rw [popLoc, pop16_withGpr hsp h]
  rfl

/-- POPA when the eight words on the stack are on no `Opaque` device (R472). -/
theorem popAll_of_peekWord {w : Reg16 → Word}
    (h : ∀ p ∈ popaOrder, peekWord s s.seg.ss (s.gpr.sp + p.1) = some (w p.2)) :
    popAll s = { s with gpr := { ax := w .ax, cx := w .cx, dx := w .dx, bx := w .bx, sp := s.gpr.sp + 16#16, bp := w .bp,
                                 si := w .si, di := w .di } } := by
  simp only [popaOrder, List.forall_mem_cons, List.not_mem_nil, false_imp_iff, implies_true, and_true] at h
  obtain ⟨hdi, hsi, hbp, hsp, hbx, hdx, hcx, hax⟩ := h
  have pop_di : popLoc (.reg .di) s = _ := popLoc_withGpr (g := s.gpr) (BitVec.add_zero _).symm hdi .di
  rw [popAll, pop_di, popLoc_withGpr rfl hsi, popLoc_withGpr rfl hbp, pop16_withGpr rfl hsp, popLoc_withGpr rfl hbx,
    popLoc_withGpr rfl hdx, popLoc_withGpr rfl hcx, popLoc_withGpr rfl hax]
  rfl

/-- After PUSHA on a stack in RAM the words are there for POPA. -/
theorem pushAll_peekWord (hw : s.mem.wf = true)
    (hram : ∀ k ∈ [2#16, 4#16, 6#16, 8#16, 10#16, 12#16, 14#16, 16#16], IsRam s (lin s.seg.ss (s.gpr.sp - k)) ∧
      IsRam s (hiAddr s.wordWrap s.seg.ss (s.gpr.sp - k))) :
    ∀ p ∈ popaOrder, peekWord (pushAll s) (pushAll s).seg.ss ((pushAll s).gpr.sp + p.1) = some (reg16 p.2 s) := by
  have word : ∀ (xs : List Word) (v : Word) (ys : List Word), pushaWords s.gpr = xs ++ v :: ys →
      peekWord (pushAll s) (pushAll s).seg.ss ((pushAll s).gpr.sp + BitVec.ofNat 16 (2 * xs.length)) = some v := by
    intro xs v ys hws
    have hys : ys.length < 8 := by
      have hlen : 8 = (xs ++ v :: ys).length := congrArg List.length hws
      rw [List.length_append, List.length_cons] at hlen
      omega
    have hmem : BitVec.ofNat 16 (2 * (ys.length + 1)) ∈ [2#16, 4#16, 6#16, 8#16, 10#16, 12#16, 14#16, 16#16] := by
      interval_cases ys.length <;> decide
    exact (pushAll_stacked hw).peekWord hws (show 2 * 8 < 2 ^ 16 by decide) (hram _ hmem).1 (hram _ hmem).2
  simp only [popaOrder, List.forall_mem_cons, List.not_mem_nil, false_imp_iff, implies_true, and_true]
  exact ⟨word [] _ _ rfl, word [_] _ _ rfl, word [_, _] _ _ rfl, word [_, _, _] _ _ rfl, word [_, _, _, _] _ _ rfl,
    word [_, _, _, _, _] _ _ rfl, word [_, _, _, _, _, _] _ _ rfl, word [_, _, _, _, _, _, _] _ _ rfl⟩

theorem exec_pusha (hv : s.cpuMode = .v20) : exec .pusha s = .next (pushAll s) := v20Only_next hv

theorem exec_popa (hv : s.cpuMode = .v20) : exec .popa s = .next (popAll s) := v20Only_next hv

end pushaPopa

section enterLeave

variable {s t : State} {ws : List Word}

/-! ### ENTER (46_v20_extensions.md R480) -/

/-- What a read answers does not depend on the registers. -/
theorem memRead16_setReg16 (g o : Word) (r : Reg16) (v : Word) (s : State) :
    (memRead16 g o (setReg16 r v s)).1 = (memRead16 g o s).1 :=
  memRead16_congr g o (setReg16_mem ..) (setReg16_draws ..) (setReg16_memTable ..) (setReg16_peripherals ..)
    (setReg16_wordWrap ..)

/-- One round of ENTER's copies, up to the push: the word below the old frame pointer is read. -/
def readBelowBp (s : State) : State := (memRead16 s.seg.ss (s.gpr.bp - 2#16) (setReg16 .bp (s.gpr.bp - 2#16) s)).2

theorem enterCopies_succ (k : Nat) (s : State) :
    enterCopies (k + 1) s = enterCopies k (push16 (memRead16 s.seg.ss (s.gpr.bp - 2#16) s).1 (readBelowBp s)) := by
  rw [← memRead16_setReg16 _ _ .bp (s.gpr.bp - 2#16) s]
  rfl

theorem readBelowBp_gpr (s : State) : (readBelowBp s).gpr = s.gpr.set .bp (s.gpr.bp - 2#16) := by simp [readBelowBp]

theorem Stacked.readBelowBp (h : Stacked [.sp, .bp] ws s t) : Stacked [.sp, .bp] ws s (readBelowBp t) :=
  h.of_sameData (by simp [sameSystem_iff, Machine.readBelowBp]) (by simp [Machine.readBelowBp])
    (by simp [Machine.readBelowBp]) (by simp [Machine.readBelowBp]) (by simp [Machine.readBelowBp])
    (sameRegsBut_of_set (readBelowBp_gpr t) _ (by decide)) (by simp [readBelowBp_gpr])

/-- As many words are copied as rounds are run. -/
theorem Stacked.copies (k : Nat) (h : Stacked [.sp, .bp] ws s t) :
    ∃ vs : List Word, vs.length = k ∧ Stacked [.sp, .bp] (vs ++ ws) s (enterCopies k t) := by
  induction k generalizing ws t with
  | zero => exact ⟨[], rfl, h⟩
  | succ k ih =>
    obtain ⟨vs, hlen, hvs⟩ := ih (h.readBelowBp.push (by decide) _)
    exact ⟨vs ++ [_], by simp [hlen], by simpa [enterCopies_succ] using hvs⟩

/-- `w 1` to `w k` on a stack, the last on top, above the word `v`. -/
def copiedWords (w : Nat → Word) (v : Word) : Nat → List Word
  | 0 => [v]
  | k + 1 => w (k + 1) :: copiedWords w v k

theorem length_copiedWords (w : Nat → Word) (v : Word) (k : Nat) : (copiedWords w v k).length = k + 1 := by
  induction k with
  | zero => rfl
  | succ k ih => rw [copiedWords, List.length_cons, ih]

/-- The words copied are those below the old frame pointer, where they are on no `Opaque` device and the pushes of ENTER
do not reach them; `i` rounds have been run. -/
theorem Stacked.copies_of_peekWord {n : Nat} {w : Nat → Word}
    (hpeek : ∀ k, 1 ≤ k → k < n → Machine.peekWord s s.seg.ss (s.gpr.bp - BitVec.ofNat 16 (2 * k)) = some (w k))
    (hapart : ∀ k j, 1 ≤ k → k < n → j ≤ n →
      ∀ c ∈ wordCells s.wordWrap s.seg.ss (s.gpr.bp - BitVec.ofNat 16 (2 * k)) 0#16,
      ∀ d ∈ wordCells s.wordWrap s.seg.ss (s.gpr.sp - BitVec.ofNat 16 (2 * (j + 1))) 0#16, c.1 ≠ d.1)
    (k : Nat) {i : Nat} {v : Word} (hk : i + k ≤ n - 1)
    (h : Stacked [.sp, .bp] (copiedWords w v i) s t) (hbp : t.gpr.bp = s.gpr.bp - BitVec.ofNat 16 (2 * i)) :
    Stacked [.sp, .bp] (copiedWords w v (i + k)) s (enterCopies k t) := by
  induction k generalizing i t with
  | zero => exact h
  | succ k ih =>
    have hoff : t.gpr.bp - 2#16 = s.gpr.bp - BitVec.ofNat 16 (2 * (i + 1)) := by rw [hbp]; bv_omega
    have hread : (memRead16 t.seg.ss (t.gpr.bp - 2#16) t).1 = w (i + 1) := by
      rw [h.seg, hoff, memRead16_of_peekWord (h.peekWord_of_apart (hpeek (i + 1) (by omega) (by omega)) fun j hj => ?_)]
      rw [length_copiedWords] at hj
      exact hapart (i + 1) j (by omega) (by omega) (by omega)
    rw [enterCopies_succ, hread, ← Nat.succ_add_eq_add_succ]
    refine ih (by omega) (h.readBelowBp.push (by decide) _) ?_
    rw [push16_gpr, Gpr.set_sp_bp, readBelowBp_gpr, Gpr.set_bp_bp, hoff]

theorem stackCells_copiedWords (wrap : WordWrap) (seg sp : Word) (w : Nat → Word) (v : Word) (k : Nat) :
    stackCells wrap seg sp (copiedWords w v k) =
      (List.range k).reverse.flatMap (fun j => wordCells wrap seg (sp - BitVec.ofNat 16 (2 * (j + 2))) (w (j + 1))) ++
        wordCells wrap seg (sp - 2#16) v := by
  induction k with
  | zero => exact List.append_nil _
  | succ k ih =>
    rw [copiedWords, stackCells, ih, length_copiedWords, List.range_succ, List.reverse_append, List.reverse_singleton,
      List.singleton_append, List.flatMap_cons, List.append_assoc]

/-- What ENTER pushes last: the new frame pointer, unless the level is 0 (R480). -/
def framePointer (n : Nat) (s : State) : List Word := if n = 0 then [] else [s.gpr.sp - 2#16]

/-- The pushes of ENTER at level `n`. -/
def enterPushes (n : Nat) (s : State) : State :=
  if n = 0 then push16 s.gpr.bp s else push16 (s.gpr.sp - 2#16) (enterCopies (n - 1) (push16 s.gpr.bp s))

theorem enterFrame_eq (size : Word) {level : Byte} {n : Nat} (hn : n = level.toNat % 32) (s : State) :
    enterFrame size level s =
      setReg16 .sp ((enterPushes n s).gpr.sp - size) (setReg16 .bp (s.gpr.sp - 2#16) (enterPushes n s)) := by
  have hlevel : (level &&& 0x1F#8).toNat = n := hn ▸ Nat.and_two_pow_sub_one_eq_mod level.toNat 5
  simp [enterFrame, enterPushes, hlevel]

theorem Stacked.enterPushes {n : Nat} (h : Stacked [.sp, .bp] ws s (enterCopies (n - 1) (push16 s.gpr.bp s))) :
    Stacked [.sp, .bp] (framePointer n s ++ ws) s (enterPushes n s) := by
  unfold Machine.enterPushes framePointer
  split
  · next hn =>
    subst hn
    exact h
  · exact h.push (by decide) _

theorem length_framePointer_append {n : Nat} (hlen : ws.length = n - 1 + 1) : (framePointer n s ++ ws).length = n + 1 := by
  rw [List.length_append, hlen, framePointer]
  split
  · next hn => rw [hn]; rfl
  · rw [List.length_singleton]; omega

theorem stackCells_framePointer {n : Nat} (wrap : WordWrap) (seg : Word) (hlen : ws.length = n - 1 + 1) :
    stackCells wrap seg s.gpr.sp (framePointer n s ++ ws) =
      (if n = 0 then [] else wordCells wrap seg (s.gpr.sp - BitVec.ofNat 16 (2 * (n + 1))) (s.gpr.sp - 2#16)) ++
        stackCells wrap seg s.gpr.sp ws := by
  unfold framePointer
  split
  · rfl
  · next hn =>
    rw [List.singleton_append, stackCells, hlen, Nat.sub_add_cancel (Nat.pos_of_ne_zero hn)]

/-- What ENTER does, by the words `ws` below the frame pointer: the old BP and the copies. -/
theorem enterFrame_frame (size : Word) {level : Byte} {n : Nat} (hn : n = level.toNat % 32) (hlen : ws.length = n - 1 + 1)
    (h : Stacked [.sp, .bp] ws s (enterCopies (n - 1) (push16 s.gpr.bp s))) :
    let t := enterFrame size level s
    SameSystem s t ∧ t.ip = s.ip ∧ t.flags = s.flags ∧ t.seg = s.seg ∧ SameRegsBut [.sp, .bp] s t ∧
      t.gpr.bp = s.gpr.sp - 2#16 ∧ t.gpr.sp = s.gpr.sp - BitVec.ofNat 16 (2 * (n + 1)) - size ∧
      Stored (stackCells s.wordWrap s.seg.ss s.gpr.sp (framePointer n s ++ ws)) s t := by
  obtain ⟨hsys, hip, hflags, hseg, -, hregs, hsp, hstored⟩ := h.enterPushes
  rw [length_framePointer_append hlen] at hsp
  rw [enterFrame_eq size hn]
  refine ⟨hsys.trans (by simp [sameSystem_iff]), hip, hflags, hseg, hregs.trans fun q hq => ?_, rfl,
    congrArg (· - size) hsp, hstored.congr rfl rfl fun _ => rfl⟩
  obtain ⟨hq_sp, hq_bp⟩ : q ≠ .sp ∧ q ≠ .bp := by simpa using hq
  rw [reg16_setReg16, if_neg hq_sp, reg16_setReg16, if_neg hq_bp]

/-- What ENTER does at any level, whatever the words it copies. -/
theorem enterFrame_any (size : Word) {level : Byte} {n : Nat} (hw : s.mem.wf = true) (hn : n = level.toNat % 32) :
    let t := enterFrame size level s
    SameSystem s t ∧ t.ip = s.ip ∧ t.flags = s.flags ∧ t.seg = s.seg ∧ SameRegsBut [.sp, .bp] s t ∧
      t.gpr.bp = s.gpr.sp - 2#16 ∧ t.gpr.sp = s.gpr.sp - BitVec.ofNat 16 (2 * (n + 1)) - size ∧
      (∀ c ∈ wordCells s.wordWrap s.seg.ss (s.gpr.sp - 2#16) s.gpr.bp, IsRam s c.1 → t.mem.read c.1.toNat = c.2) ∧
      (n ≠ 0 → ∀ c ∈ wordCells s.wordWrap s.seg.ss (s.gpr.sp - BitVec.ofNat 16 (2 * (n + 1))) (s.gpr.sp - 2#16),
        IsRam s c.1 → t.mem.read c.1.toNat = c.2) ∧
      ∀ a : Addr, (∀ k, k ≤ n → ∀ c ∈ wordCells s.wordWrap s.seg.ss (s.gpr.sp - BitVec.ofNat 16 (2 * (k + 1))) 0#16,
        c.1 ≠ a) → t.mem.read a.toNat = s.mem.read a.toNat := by
  have hbp := (Stacked.refl [.sp, .bp] hw).push (by decide) s.gpr.bp
  obtain ⟨vs, hvs, h⟩ := hbp.copies (n - 1)
  have hlen : (vs ++ [s.gpr.bp]).length = n - 1 + 1 := by rw [List.length_append, hvs]; rfl
  have hfull := length_framePointer_append (s := s) hlen
  obtain ⟨hsys, hip, hflags, hseg, hregs, hbp', hsp, hstored⟩ := enterFrame_frame size hn hlen h
  refine ⟨hsys, hip, hflags, hseg, hregs, hbp', hsp, ?pushedBp, fun hn0 => ?pointer, fun a ha => ?other⟩
  case pushedBp =>
    have hword := stackCells_wordAt s.wordWrap s.seg.ss s.gpr.sp (framePointer n s ++ vs) s.gpr.bp []
      (by rw [List.append_assoc, hfull]; omega)
    rw [List.append_assoc] at hword
    exact hword.read hstored
  case pointer =>
    have hword := stackCells_wordAt s.wordWrap s.seg.ss s.gpr.sp [] (s.gpr.sp - 2#16) (vs ++ [s.gpr.bp])
      (by rw [List.nil_append, List.length_cons, hlen]; omega)
    rw [hlen, Nat.sub_add_cancel (Nat.pos_of_ne_zero hn0)] at hword
    rw [framePointer, if_neg hn0] at hstored
    exact hword.read hstored
  case other =>
    refine hstored.other fun c hc e => ?_
    obtain ⟨k, hk, d, hd, hdc⟩ := exists_of_mem_stackCells hc
    exact ha k (by omega) d hd (hdc.trans e)

/-! ### LEAVE (46_v20_extensions.md R481) -/

theorem leaveFrame_frame (s : State) :
    let t := leaveFrame s
    SameSystem s t ∧ t.ip = s.ip ∧ t.flags = s.flags ∧ t.seg = s.seg ∧ t.mem = s.mem ∧ SameRegsBut [.sp, .bp] s t ∧
      t.gpr.sp = s.gpr.bp + 2#16 ∧ t.gpr.bp = (memRead16 s.seg.ss s.gpr.bp s).1 := by
  obtain ⟨hsys, hip, hflags, hseg, hmem, hregs⟩ := popLoc_reg .bp (setReg16 .sp s.gpr.bp s)
  obtain ⟨-, -, -, -, -, -, hval⟩ := pop16_frame (setReg16 .sp s.gpr.bp s)
  refine ⟨.trans (by simp [sameSystem_iff]) hsys, hip, hflags, hseg, hmem, fun q hq => ?_, hregs .sp,
    (hregs .bp).trans (hval.trans (memRead16_setReg16 ..))⟩
  obtain ⟨hq_sp, hq_bp⟩ : q ≠ .sp ∧ q ≠ .bp := by simpa using hq
  rw [leaveFrame, hregs, if_neg hq_bp, if_neg hq_sp, reg16_setReg16, if_neg hq_sp]

theorem exec_enterIwIb (hv : s.cpuMode = .v20) (size : Word) (level : Byte) :
    exec (.enterIwIb size level) s = .next (enterFrame size level s) := v20Only_next hv

theorem exec_leave (hv : s.cpuMode = .v20) : exec .leave s = .next (leaveFrame s) := v20Only_next hv

end enterLeave

section v20Arithmetic

variable {s : State}

/-! ### IMUL with an immediate (46_v20_extensions.md R475) -/

/-- The product goes to a register; CF and OF say that it does not fit there. -/
theorem imulImm_frame (g : Reg16) (e : RM Reg16) (k : Word) (s : State) :
    let p := (value16 e s).toInt * k.toInt
    let t := imulImm g e k s
    SameSystem s t ∧ t.ip = s.ip ∧ PutWord (.reg g) (BitVec.ofInt 16 p) s t ∧
      flag .carry t = decide (p < -32768 ∨ 32767 < p) ∧ flag .overflow t = flag .carry t ∧
      SameFlagsBut [.carry, .overflow, .sign, .zero, .aux, .parity] s t := by
  intro p t
  have htame : Tame s t := tame_imulImm g e k (.refl s)
  have hcarry : flag .carry t = decide (p < -32768 ∨ 32767 < p) := by
    simp only [t, imulImm]
    rw [undefFlags_flag _ _ (by decide), flag_setFlag, if_neg (by decide), flag_setFlag, if_pos rfl]
    exact decide_eq_decide.2 (ne_toInt_ofInt_iff (w := 16) (by decide) p)
  have hoverflow : flag .overflow t = flag .carry t := by
    simp only [t, imulImm]
    rw [undefFlags_flag _ _ (by decide), undefFlags_flag _ _ (by decide)]
    simp
  have hput : PutWord (.reg g) (BitVec.ofInt 16 p) s t :=
    (setReg16_put g (BitVec.ofInt 16 p) (readLoc16 (loc16 e s) s).2).congr (by simp) (by simp) (by simp) (by simp) (by simp)
      (by simp [t, imulImm, p, value16]) (by simp [t, imulImm]) (by simp [t, imulImm])
  exact ⟨htame.1, by simp [t, imulImm], hput, hcarry, hoverflow, htame.sameFlagsBut (by decide)⟩

/-! ### BOUND (46_v20_extensions.md R476) -/

theorem boundCheck_of_inside {g : Reg16} {m : MemOp} (hlo : (readFar m s).1.1.toInt ≤ (reg16 g s).toInt)
    (hhi : (reg16 g s).toInt ≤ (readFar m s).1.2.toInt) : boundCheck g m s = .next (readFar m s).2 := by
  refine if_neg ?_
  rw [readFar_reg16]
  omega

theorem boundCheck_of_outside {g : Reg16} {m : MemOp} (hn : NoHandler 5#8 s)
    (h : (reg16 g s).toInt < (readFar m s).1.1.toInt ∨ (readFar m s).1.2.toInt < (reg16 g s).toInt) :
    boundCheck g m s = .next (vectorThrough 5#8 (rollBack (readFar m s).2)) := by
  have hn' : NoHandler 5#8 (rollBack (readFar m s).2) := by simpa [NoHandler] using hn
  exact (if_pos (by rwa [readFar_reg16])).trans (doInterrupt_of_noHandler hn')

/-- The entry is made from the state in which the bounds have been read and IP is rolled back. -/
theorem boundFault_entered (hw : s.mem.wf = true) (m : MemOp) :
    Entered 5#8 s.dec.start s (vectorThrough 5#8 (rollBack (readFar m s).2)) := by
  have he := vectorThrough_entered (s := rollBack (readFar m s).2) (by simpa using hw) 5#8
  have hip : (rollBack (readFar m s).2).ip = s.dec.start := by simp [rollBack]
  rw [hip] at he
  exact (untouched_rollBack_readFar m s).entered he

end v20Arithmetic

/-- Settles O56: PUSHA is eight pushes, POPA eight pops, and the words pushed are those popped. -/
theorem pushaAndPopa : Obligations.PushaAndPopa := by
  refine ⟨fun s hv hw => ⟨_, exec_pusha hv, ?pusha⟩, fun s w hv h => ⟨_, exec_popa hv, ?popa⟩, ?undo⟩
  case pusha =>
    obtain ⟨hsys, hip, hflags, hseg, -, hregs, hsp, hstored⟩ := pushAll_stacked hw
    refine ⟨hsys, hip, hflags, hseg, hregs, hsp, ?_⟩
    simpa [stackCells, pushaWords] using hstored
  case popa =>
    rw [popAll_of_peekWord h]
    refine ⟨rfl, rfl, rfl, rfl, rfl, fun q => ?_⟩
    cases q <;> rfl
  case undo =>
    intro s t hv hw hram ht
    obtain rfl : pushAll s = t := Host.Outcome.next.inj ((exec_pusha hv).symm.trans ht)
    have hst := pushAll_stacked hw
    have hsp : (pushAll s).gpr.sp + 16#16 = s.gpr.sp := by
      rw [hst.sp]
      exact BitVec.sub_add_cancel ..
    refine ⟨_, exec_popa (hst.system.cpuMode.trans hv), ?_⟩
    rw [popAll_of_peekWord (w := fun r => reg16 r s) (pushAll_peekWord hw hram), hsp]
    rfl

/-- Settles O57: ENTER is a run of pushes with BP and SP set after it, LEAVE a pop from BP. -/
theorem enterAndLeave : Obligations.EnterAndLeave := by
  refine ⟨fun s size level n w hv hw hn hpeek hapart => ⟨_, exec_enterIwIb hv size level, ?known⟩,
    fun s size level n hv hw hn => ⟨_, exec_enterIwIb hv size level, enterFrame_any size hw hn⟩,
    fun s hv => ⟨_, exec_leave hv, leaveFrame_frame s⟩, ?undo⟩
  case known =>
    have hbp := (Stacked.refl [.sp, .bp] hw).push (by decide) s.gpr.bp
    have h : Stacked [.sp, .bp] (copiedWords w s.gpr.bp (0 + (n - 1))) s _ :=
      hbp.copies_of_peekWord hpeek hapart (n - 1) (i := 0) (by omega) (by simp)
    rw [Nat.zero_add] at h
    obtain ⟨hsys, hip, hflags, hseg, hregs, hbp', hsp, hstored⟩ := enterFrame_frame size hn (length_copiedWords ..) h
    rw [stackCells_framePointer _ _ (length_copiedWords ..), stackCells_copiedWords, ← List.append_assoc] at hstored
    exact ⟨hsys, hip, hflags, hseg, hregs, hbp', hsp, hstored⟩
  case undo =>
    intro s t size level hv hw hlo hhi ht
    obtain rfl : enterFrame size level s = t := Host.Outcome.next.inj ((exec_enterIwIb hv size level).symm.trans ht)
    obtain ⟨hsys, -, -, hseg, hregs, hbp, -, hword, -⟩ := enterFrame_any size hw rfl
    obtain ⟨hread_hi, hread_lo⟩ := forall_mem_pair.1 hword
    have hpop : (memRead16 s.seg.ss (s.gpr.sp - 2#16) (enterFrame size level s)).1 = s.gpr.bp := by
      rw [memRead16_of_ram ((hsys.kindAt _).trans hlo) ((hsys.kindAt _).trans (hsys.wordWrap ▸ hhi)), hsys.wordWrap,
        hread_lo hlo, hread_hi hhi]
      exact wordOfBytes_lo_hi _
    obtain ⟨-, -, -, -, -, hregs', hsp', hbp'⟩ := leaveFrame_frame (enterFrame size level s)
    rw [hseg, hbp, hpop] at hbp'
    rw [hbp, BitVec.sub_add_cancel] at hsp'
    refine ⟨_, exec_leave (hsys.cpuMode.trans hv), gpr_eq_of_reg16 fun q => ?_⟩
    by_cases hq : q ∈ [Reg16.sp, .bp]
    · obtain rfl | rfl : q = .sp ∨ q = .bp := by simpa using hq
      · exact hsp'
      · exact hbp'
    · rw [hregs' q hq, hregs q hq]

/-- Settles O58: both rows of IMUL are one product; BOUND reads its bounds and compares. -/
theorem imulImmediateAndBound : Obligations.ImulImmediateAndBound := by
  intro s g e k b m hv hw
  refine ⟨forall_mem_pair.2 ⟨⟨_, v20Only_next hv, imulImm_frame g e k s⟩, ⟨_, v20Only_next hv, imulImm_frame g e _ s⟩⟩,
    ?bound⟩
  case bound =>
    rintro _ _ rfl rfl
    refine ⟨fun ⟨hlo, hhi⟩ => ?inside, fun hn h => ?outside⟩
    case inside =>
      obtain ⟨hsys, hdata, hflags⟩ := untouched_readFar m s
      exact ⟨_, (v20Only_of_v20 _ hv).trans (boundCheck_of_inside hlo hhi), hsys, readFar_ip m s, hflags, hdata⟩
    case outside => exact ⟨_, (v20Only_of_v20 _ hv).trans (boundCheck_of_outside hn h), boundFault_entered hw m⟩

end Sys2Proof.Machine

namespace Sys2Proof.Machine

section controllerPoll

variable {s t u : State}

/-! ### When the controller is asked (60_exceptions.md R506, R507) -/

theorem SameSystem.pic (h : SameSystem s t) : t.pic = s.pic := by
  obtain ⟨-, -, -, -, -, -, -, -, -, -, hpic, -⟩ := sameSystem_iff.1 h
  exact hpic

/-- A controller that is due and has a vector pending: the answer is used up and the vector is taken. -/
theorem deliverPending_of_answer {v : Byte} {rest : List (Option Byte)} (htrap : s.trap = false)
    (hif : flag .interrupt s = true) (hpic : s.pic = some (some v :: rest)) (hn : NoHandler v s) :
    deliverPending s = .next (vectorThrough v { s with pic := some rest }) := by
  have hpoll : pollPending s = (some v, { s with pic := some rest }) := by rw [pollPending, hpic]
  have hopen : (!s.trap && flag .interrupt s) = true := by rw [htrap, hif]; rfl
  rw [deliverPending, if_pos hopen, hpoll]
  exact doInterrupt_of_noHandler (s := { s with pic := some rest }) hn

/-- A polled interrupt clears TF and IF, so in the state it leaves nothing is due. -/
theorem vectorThrough_nothingDue (n : Byte) (hs : s.signal ≠ .decoding) (htrap : s.trap = false) :
    NothingDue (vectorThrough n s) :=
  ⟨by rwa [vectorThrough_signal], by rwa [vectorThrough_trap], .inr (.inl (vectorThrough_interrupt_flag n s))⟩

/-- With IF = 0 the decode begins with the controller's answers as they are, and with a decode state of its own. -/
theorem decodeStart_of_closed (d : DecodeState) (hif : flag .interrupt s = false) :
    decodeStart s = beginDecode (rehide (flag .trap s) 0 .ok d s.pic s) := by
  rw [decodeStart, hif, if_neg (by simp)]
  rfl

theorem step_of_polledEntry {v : Byte} {rest : List (Option Byte)} (hs : s.signal ≠ .decoding) (htrap : s.trap = false)
    (htf : flag .trap s = false) (hif : flag .interrupt s = true) (hpic : s.pic = some (some v :: rest))
    (hn : NoHandler v s) : step s = step (vectorThrough v { s with pic := some rest }) := by
  have hentry : deliverPending (armTrap (beginStep s)) =
      .next (rehide (flag .trap s) 0 .ok s.dec (some rest) (vectorThrough v { s with pic := some rest })) := by
    rw [deliverPending_of_answer (s := armTrap (beginStep s)) htf hif hpic hn, ← vectorThrough_rehide]
    rfl
  have htf' : flag .trap (vectorThrough v { s with pic := some rest }) = false := vectorThrough_bit v _ 8
  rw [step_of_delivered hs (deliverTrap_of_clear htrap) hentry,
    step_of_nothingDue (vectorThrough_nothingDue (s := { s with pic := some rest }) v hs htrap),
    decodeStart_of_closed s.dec (vectorThrough_interrupt_flag v _), htf, htf', vectorThrough_pic]

/-! ### What the other parts of a step do to the controller -/

theorem tickOne_pic (k : Nat) (p : Peripheral) (s : State) : (tickOne k p s).pic = s.pic :=
  (runBusOps_frame p.nextTick.1.ops { s with peripherals := s.peripherals.set k p.nextTick.2 }).1.pic

theorem tickFrom_pic {n k : Nat} (h : tickFrom n k s = .next t) : t.pic = s.pic := by
  induction n generalizing k s with
  | zero =>
    cases h
    rfl
  | succ n ih =>
    cases hp : s.peripherals[k]? with
    | none =>
      rw [tickFrom, hp] at h
      cases h
      rfl
    | some p =>
      cases he : p.nextTick.1.error with
      | none =>
        rw [tickFrom_of_noError hp he] at h
        exact (ih h).trans (tickOne_pic k p s)
      | some e =>
        rw [tickFrom_of_error hp he] at h
        cases h

theorem finishStep_pic (h : finishStep s = .next t) : t.pic = s.pic := by
  obtain ⟨u, hu, h⟩ := andThen_eq_next h
  have htick : u.pic = s.pic := tickFrom_pic (s := { s with cycles := Config.cyclesPerStep }) hu
  cases h
  exact htick

theorem exec_pic {i : Instr} (h : exec i s = .next t) : t.pic = s.pic := by
  obtain ⟨⟨g, d, hs, hsys, -⟩, -⟩ := exec_frame h
  exact hsys.pic

/-- The decode phase, by induction on the prefixes that are left (30_encoding.md R111). -/
theorem runDecoded_pic {fuel : Nat} (h : runDecoded fuel s = .next t) : t.pic = s.pic := by
  induction fuel generalizing s with
  | zero =>
    cases h
    rfl
  | succ fuel ih =>
    cases hf : fetchInstr s with
    | error e =>
      rw [runDecoded, hf] at h
      cases h
    | ok fetched =>
      obtain ⟨i, s1⟩ := fetched
      rw [runDecoded_succ fuel hf] at h
      obtain ⟨u, hu, h⟩ := andThen_eq_next h
      have hbefore : u.pic = s.pic := (exec_pic hu).trans (fetchInstr_tame hf).1.pic
      split at h
      · exact (ih h).trans hbefore
      · exact (finishStep_pic h).trans hbefore

theorem deliverTrap_pic (h : deliverTrap s = .next t) : t.pic = s.pic := by
  rcases ite_eq_next h with h | h
  · obtain ⟨-, -, -, hpic⟩ := doInterrupt_hidden h
    exact hpic
  · cases h
    rfl

/-- An interrupt that is taken clears IF, by its vector or after its handler (60_exceptions.md R510). -/
theorem doInterrupt_interrupt_flag {n : Byte} (h : doInterrupt n s = .next t) : flag .interrupt t = false := by
  obtain ⟨ops, hs, rfl | rfl⟩ := doInterrupt_eq_next h
  · exact vectorThrough_interrupt_flag n _
  · exact clearTfIf_bit _ 9

/-- The controller is not due: TF is set, and so will be the latch, or interrupts are closed (60_exceptions.md R506, R507). -/
def PollClosed (s : State) : Prop := flag .trap s = true ∨ flag .interrupt s = false

theorem deliverPending_of_pollClosed (h : PollClosed s) : deliverPending (armTrap s) = .next (armTrap s) := by
  rcases h with htf | hif
  · rw [deliverPending, armTrap_trap, htf]
    rfl
  · exact deliverPending_of_closed hif

/-- A latched trap closes the interrupts when it is taken; without one nothing happens before the poll. -/
theorem deliverTrap_pollClosed (h : deliverTrap s = .next t) (hs : s.trap = true ∨ PollClosed s) : PollClosed t := by
  cases htrap : s.trap with
  | true =>
    rw [deliverTrap, if_pos htrap] at h
    exact .inr (doInterrupt_interrupt_flag h)
  | false =>
    rw [deliverTrap_of_clear htrap] at h
    cases h
    exact hs.resolve_left (by simp [htrap])

theorem step_pic_of_pollClosed (hs : s.signal ≠ .decoding) (hclosed : s.trap = true ∨ PollClosed s)
    (h : step s = .next t) : t.pic = s.pic := by
  obtain ⟨u, v, hu, hv⟩ := delivered_of_step hs h
  have hpoll := deliverPending_of_pollClosed (deliverTrap_pollClosed hu hclosed)
  rw [step_of_delivered hs hu hpoll] at h
  have htrap : u.pic = s.pic := deliverTrap_pic (s := beginStep s) hu
  exact (runDecoded_pic (s := beginDecode (armTrap u)) h).trans htrap

end controllerPoll

/-- Settles O14. The polled entry clears TF and IF, so the step goes on with nothing due; where the poll is closed, no part of a
step reaches the controller. -/
theorem controllerIsPolledOnlyWhenInterruptsAreOpen : Obligations.ControllerIsPolledOnlyWhenInterruptsAreOpen := by
  refine ⟨fun s v rest hs hw htrap htf hif hpic hn => ⟨_, ?entered, step_of_polledEntry hs htrap htf hif hpic hn⟩,
    fun s t hc h => ?kept⟩
  case entered => exact vectorThrough_entered (s := { s with pic := some rest }) hw v
  case kept =>
    by_cases hs : s.signal = .decoding
    · exact runDecoded_pic (s := resumeDecode s) ((step_of_decoding hs).symm.trans h)
    · exact step_pic_of_pollClosed hs (hc.resolve_left hs) h

section divideFault

variable {s u : State}

/-! ### The divide fault (60_exceptions.md R520; 41_arithmetic.md R282, R283, R294) -/

/-- An instruction that has at most read its operand and raises the fault enters vector 0 with the offset of its first prefix
byte. -/
theorem divideFault_entered (hw : s.mem.wf = true) (hn : NoHandler 0#8 s) (h : Untouched s (rollBack u)) :
    ∃ t, divideFault u = .next t ∧ Entered 0#8 s.dec.start s t := by
  have ⟨hsys, ⟨_, _, hmem⟩, _⟩ := h
  obtain ⟨-, -, -, -, -, hdec, -, -, -, hsoft, -⟩ := sameSystem_iff.1 hsys
  have hn' : NoHandler 0#8 (rollBack u) := by rwa [NoHandler, hsoft]
  have he : Entered 0#8 u.dec.start (rollBack u) (vectorThrough 0#8 (rollBack u)) :=
    vectorThrough_entered (by rwa [hmem]) 0#8
  have hstart : u.dec.start = s.dec.start := congrArg DecodeState.start hdec
  exact ⟨_, doInterrupt_of_noHandler hn', hstart ▸ h.entered he⟩

theorem ite_ite_of_or {α : Type} {c c' : Prop} [Decidable c] [Decidable c'] (h : c ∨ c') (a b : α) :
    (if c then a else if c' then a else b) = a := by
  by_cases hc : c
  · exact if_pos hc
  · exact (if_neg hc).trans (if_pos (h.resolve_left hc))

theorem divEb_of_fault {e : RM Reg8} (h : value8 e s = 0#8 ∨ 0xFF < s.gpr.ax.toNat / (value8 e s).toNat) :
    exec (.divEb e) s = divideFault (readLoc8 (loc8 e s) s).2 := by
  show execDivEb e s = _
  simp only [execDivEb, readLoc8_gpr]
  exact ite_ite_of_or (h.imp_left (congrArg BitVec.toNat)) _ _

theorem divEv_of_fault {e : RM Reg16} (h : value16 e s = 0#16 ∨ 0xFFFF < (dxAx s).toNat / (value16 e s).toNat) :
    exec (.divEv e) s = divideFault (readLoc16 (loc16 e s) s).2 := by
  show execDivEv e s = _
  simp only [execDivEv, dxAx_readLoc16]
  exact ite_ite_of_or (h.imp_left (congrArg BitVec.toNat)) _ _

theorem idivEb_of_fault {e : RM Reg8} (h : value8 e s = 0#8 ∨ 127 < s.gpr.ax.toInt.tdiv (value8 e s).toInt ∨
      s.gpr.ax.toInt.tdiv (value8 e s).toInt < (if s.cpuMode = .v20 then -128 else -127)) :
    exec (.idivEb e) s = divideFault (readLoc8 (loc8 e s) s).2 := by
  show execIdivEb e s = _
  simp only [execIdivEb, readLoc8_gpr, readLoc8_cpuMode, idivMin_byte]
  exact ite_ite_of_or (h.imp_left (congrArg BitVec.toInt)) _ _

theorem idivEv_of_fault {e : RM Reg16} (h : value16 e s = 0#16 ∨ 32767 < (dxAx s).toInt.tdiv (value16 e s).toInt ∨
      (dxAx s).toInt.tdiv (value16 e s).toInt < (if s.cpuMode = .v20 then -32768 else -32767)) :
    exec (.idivEv e) s = divideFault (readLoc16 (loc16 e s) s).2 := by
  show execIdivEv e s = _
  simp only [execIdivEv, dxAx_readLoc16, readLoc16_cpuMode, idivMin_word]
  exact ite_ite_of_or (h.imp_left (congrArg BitVec.toInt)) _ _

theorem aamIb_zero (s : State) : exec (.aamIb 0#8) s = divideFault s := by
  show execAamIb 0#8 s = _
  exact if_pos rfl

end divideFault

/-- Settles O41: on the complement of O40 each row is the divide fault, after at most a read of its operand. -/
theorem divideFaultTakesVectorZero : Obligations.DivideFaultTakesVectorZero := by
  intro s e f hw hn
  have hbyte := divideFault_entered hw hn (untouched_rollBack_readLoc8 (loc8 e s) s)
  have hword := divideFault_entered hw hn (untouched_rollBack_readLoc16 (loc16 f s) s)
  refine ⟨fun h => ?divByte, fun h => ?divWord, fun h => ?idivByte, fun h => ?idivWord, ?aam⟩
  case divByte => exact divEb_of_fault h ▸ hbyte
  case divWord => exact divEv_of_fault h ▸ hword
  case idivByte => exact idivEb_of_fault h ▸ hbyte
  case idivWord => exact idivEv_of_fault h ▸ hword
  case aam => exact aamIb_zero s ▸ divideFault_entered hw hn (untouched_rollBack s)

section softHandler

variable {s : State} {n : Byte} {r : HandlerReply} {hs : List SoftHandler}

/-! ### A software handler in place of the vector table (60_exceptions.md R510, R511) -/

theorem doInterrupt_of_handled (h : nextReply n s.softInt = some (r, hs)) (hr : r.result = .ok) :
    doInterrupt n s = .next (clearTfIf (runHandlerOps r.ops { s with softInt := hs })) := by
  simp only [doInterrupt, h, hr]

theorem doInterrupt_of_notHandled (h : nextReply n s.softInt = some (r, hs)) (hr : r.result = .notHandled) :
    doInterrupt n s = .next (vectorThrough n (runHandlerOps r.ops { s with softInt := hs })) := by
  simp only [doInterrupt, h, hr]

theorem doInterrupt_of_handlerError {e : Nat} (h : nextReply n s.softInt = some (r, hs)) (hr : r.result = .error e) :
    doInterrupt n s = .fault (.handlerError e (clearTfIf (runHandlerOps r.ops { s with softInt := hs }))) := by
  simp only [doInterrupt, h, hr]

theorem clearTfIf_frame (s : State) :
    clearTfIf s = { s with flags := (clearTfIf s).flags } ∧ flag .trap (clearTfIf s) = false ∧
      flag .interrupt (clearTfIf s) = false ∧ SameFlagsBut [.trap, .interrupt] s (clearTfIf s) := by
  refine ⟨rfl, clearTfIf_bit s 8, clearTfIf_bit s 9, fun i hi => ?_⟩
  obtain ⟨htf, hif⟩ := forall_mem_pair.1 hi
  exact (clearTfIf_bit s i).trans ((if_neg (Ne.symm hif)).trans (if_neg (Ne.symm htf)))

end softHandler

/-- Settles O52, by the handler's three results: both ends of the handler path clear TF and IF, "not handled" is the entry from
the state its effects leave. -/
theorem softHandlerReplacesTheVectorTable : Obligations.SoftHandlerReplacesTheVectorTable := by
  rintro s _ n r hs hw hreply rfl
  refine ⟨fun hr => ⟨_, doInterrupt_of_handled hreply hr, clearTfIf_frame _⟩,
    fun hr => ⟨_, doInterrupt_of_notHandled hreply hr, ?entered⟩,
    fun e hr => ⟨_, doInterrupt_of_handlerError hreply hr, clearTfIf_frame _⟩⟩
  case entered => exact vectorThrough_entered (runHandlerOps_wf r.ops (s := { s with softInt := hs }) hw) n

end Sys2Proof.Machine
